-- ==== Sys2Proof/Word.lean ====
section
/-! DEFINITION. The word types of the block: a byte, a 16-bit opcode, and the two payload shapes
(spec/00_scope.md R10 to R12, spec/30_encoding.md R71, R72). -/

namespace Sys2Proof

/-- An 8-bit byte, bit 7 most significant (R10). -/
abbrev Byte := BitVec 8

/-- A 16-bit opcode value, `OPC[15:8]` first on the wire (R30, R53). -/
abbrev Opcode := BitVec 16

/-- The 4-byte payload of an outbound CMD8 frame, `p0` first (R71, R84). -/
structure Payload4 where
  p0 : Byte
  p1 : Byte
  p2 : Byte
  p3 : Byte
  deriving DecidableEq, Repr

/-- The 12-byte payload of an inbound RSP16 frame, `p0` first (R72). -/
structure Payload12 where
  p0 : Byte
  p1 : Byte
  p2 : Byte
  p3 : Byte
  p4 : Byte
  p5 : Byte
  p6 : Byte
  p7 : Byte
  p8 : Byte
  p9 : Byte
  p10 : Byte
  p11 : Byte
  deriving DecidableEq, Repr

/-- The payload 00 00 00 00 that every listed command is sent with (R84). -/
def Payload4.zero : Payload4 := ⟨0, 0, 0, 0⟩

/-- Twelve zero bytes. -/
def Payload12.zero : Payload12 := ⟨0, 0, 0, 0, 0, 0, 0, 0, 0, 0, 0, 0⟩

end Sys2Proof
end

