-- ==== Sys2Proof/Config.lean ====
section
/-! DEFINITION. What an implementation fixes: the constants of spec/00_scope.md R8 and the open
parameters of R9. An open parameter is an opaque constant: nothing can be proved of its value. -/

namespace Sys2Proof

/-- START_BYTE, outbound and inbound (R8). -/
def Config.startByte : Byte := 0xAA

/-- CRC_INIT (R8). -/
def Config.crcInit : Byte := 0xFF

/-- CRC_POLY, the feedback mask XORed after the shift (R8). -/
def Config.crcPoly : Byte := 0x31

/-- TX_FRAME_LEN (R8). -/
def Config.txFrameLen : Nat := 8

/-- RX_FRAME_LEN (R8). -/
def Config.rxFrameLen : Nat := 16

/-- The line settings of R8; the block sees bytes, not bits, and no step reads them (R25, R294). -/
structure LineSettings where
  baud : Nat
  dataBits : Nat
  parity : Bool
  stopBits : Nat
  flowControl : Bool
  deriving DecidableEq, Repr

/-- 3,000,000 baud, 8 data bits, no parity, 1 stop bit, no flow control (R8). -/
def Config.lineSettings : LineSettings := ⟨3000000, 8, false, 1, false⟩

/-- One less than RETRY_W, so that `Config.retryWidth` is at least 1 whatever it is. -/
opaque Config.retryWidthPred : Nat

/-- RETRY_W, the width of the retry counter: OPEN, at least 1 (R9; log 7). -/
def Config.retryWidth : Nat := Config.retryWidthPred + 1

/-- The values below 2^RETRY_W: those `max_retries` and RC can hold (R32, R239). -/
def Config.retryBound : Nat := 2 ^ Config.retryWidth

/-- An unsigned RETRY_W-bit value: the type of RC and of the `max_retries` input (R9, R26, R32). -/
abbrev RetryCount := BitVec Config.retryWidth

/-- PRESSURE_SIGNED: OPEN (R9, R202; log 8). -/
opaque Config.pressureSigned : Bool

/-- ACK_TIMEOUT in time-units of an open unit: timing only, no step reads it (R9; log 9). -/
opaque Config.ackTimeout : Nat

/-- The default of ACK_TIMEOUT (R9). -/
def Config.ackTimeoutDefault : Nat := 5

/-- RX_WINDOW: OPEN, timing only, no step reads it (R9; log 9). -/
opaque Config.rxWindow : Nat

/-- DESYNC_PAUSE: OPEN, timing only, no step reads it (R9; log 9). -/
opaque Config.desyncPause : Nat

end Sys2Proof
end

