-- ==== Sys2Proof/Machine/Framer.lean ====
section
/-! DEFINITION. The framer (spec/42_framer.md), the byte order of its fields (spec/20_memory.md R53,
R54) and the CMD8 format read back (spec/30_encoding.md R71, R73). -/

namespace Sys2Proof.Machine

/-- `OPC[15:8]`, the first opcode byte on the wire (R53). -/
def hiByte (o : Opcode) : Byte := o.extractLsb' 8 8

/-- `OPC[7:0]`, the second opcode byte on the wire (R53). -/
def loByte (o : Opcode) : Byte := o.extractLsb' 0 8

/-- `OPC = f[1] * 256 + f[2]` (R53). -/
def joinOpcode (hi lo : Byte) : Opcode := hi ++ lo

/-- PAY in wire order, `PAY[0]` first (R31, R71). -/
def payBytes (p : Payload4) : List Byte := [p.p0, p.p1, p.p2, p.p3]

/-- The first seven bytes of a CMD8 frame (R71, R141). -/
def cmdBody (opc : Opcode) (pay : Payload4) : List Byte :=
  [Config.startByte, hiByte opc, loByte opc] ++ payBytes pay

/-- `encode_command(opc, pay)` (R140, R141): any opcode and any payload (R142, R143). -/
def encodeCommand (opc : Opcode) (pay : Payload4) : Vector Byte 8 :=
  #v[Config.startByte, hiByte opc, loByte opc, pay.p0, pay.p1, pay.p2, pay.p3,
     crc8 (cmdBody opc pay)]

/-- A CMD8 frame read back into its opcode and payload: eight bytes, START 0xAA and a matching CRC
(R71, R79). The block itself never parses one (R70); this reads TXS. -/
def parseCmd8 : List Byte → Option (Opcode × Payload4)
  | [st, hi, lo, a, b, c, d, crc] =>
    if st = Config.startByte ∧ crc8 [st, hi, lo, a, b, c, d] = crc then
      some (joinOpcode hi lo, ⟨a, b, c, d⟩)
    else none
  | _ => none

/-- The 64-bit word view of a CMD8 frame, offset 0 most significant (R73). -/
def cmdWord (f : Vector Byte 8) : BitVec 64 :=
  f[0] ++ f[1] ++ f[2] ++ f[3] ++ f[4] ++ f[5] ++ f[6] ++ f[7]

/-- The 128-bit word view of an RSP16 frame, offset 0 most significant (R73). -/
def rspWord (f : Vector Byte 16) : BitVec 128 :=
  f[0] ++ f[1] ++ f[2] ++ f[3] ++ f[4] ++ f[5] ++ f[6] ++ f[7] ++
    f[8] ++ f[9] ++ f[10] ++ f[11] ++ f[12] ++ f[13] ++ f[14] ++ f[15]

end Sys2Proof.Machine
end

