-- ==== Sys2Proof/Syntax.lean ====
section
/-! DEFINITION. The instructions of the block: one constructor of `Instr` per row of
spec/opcode_table.json (spec/30_encoding.md R74 to R76, R86, R87). -/

namespace Sys2Proof

/-- The 11 commands of R74. -/
inductive Command where
  | distOn | distOff | velOn | velOff | stopAll | clrSmallSignal | clrVelOverflow
  | clrExtCapture | meteoOn | meteoOff | resetOrigin
  deriving DecidableEq, Repr

/-- A frame the block sends or receives. A command carries the operands of its `cmd_req`, the
payload and `max_retries`, at the widths of R86; an inbound frame carries its START byte, which is not checked
(R178), and its payload. -/
inductive Instr where
  | distOn (pay : Payload4) (maxRetries : RetryCount)
  | distOff (pay : Payload4) (maxRetries : RetryCount)
  | velOn (pay : Payload4) (maxRetries : RetryCount)
  | velOff (pay : Payload4) (maxRetries : RetryCount)
  | stopAll (pay : Payload4) (maxRetries : RetryCount)
  | clrSmallSignal (pay : Payload4) (maxRetries : RetryCount)
  | clrVelOverflow (pay : Payload4) (maxRetries : RetryCount)
  | clrExtCapture (pay : Payload4) (maxRetries : RetryCount)
  | meteoOn (pay : Payload4) (maxRetries : RetryCount)
  | meteoOff (pay : Payload4) (maxRetries : RetryCount)
  | resetOrigin (pay : Payload4) (maxRetries : RetryCount)
  | distData (start : Byte) (p : Payload12)
  | velData (start : Byte) (p : Payload12)
  | meteoData (start : Byte) (p : Payload12)
  | ackDistOn (start : Byte) (p : Payload12)
  | ackDistOff (start : Byte) (p : Payload12)
  | ackVelOn (start : Byte) (p : Payload12)
  | ackVelOff (start : Byte) (p : Payload12)
  | ackStopAll (start : Byte) (p : Payload12)
  | ackClrSmallSignal (start : Byte) (p : Payload12)
  | ackClrVelOverflow (start : Byte) (p : Payload12)
  | ackClrExtCapture (start : Byte) (p : Payload12)
  | ackMeteoOn (start : Byte) (p : Payload12)
  | ackMeteoOff (start : Byte) (p : Payload12)
  | ackResetOrigin (start : Byte) (p : Payload12)
  deriving DecidableEq, Repr

/-- The spec's mnemonic of a command (R74, R87). -/
def Command.mnemonic : Command → String
  | .distOn => "DIST_ON"
  | .distOff => "DIST_OFF"
  | .velOn => "VEL_ON"
  | .velOff => "VEL_OFF"
  | .stopAll => "STOP_ALL"
  | .clrSmallSignal => "CLR_SMALL_SIGNAL"
  | .clrVelOverflow => "CLR_VEL_OVERFLOW"
  | .clrExtCapture => "CLR_EXT_CAPTURE"
  | .meteoOn => "METEO_ON"
  | .meteoOff => "METEO_OFF"
  | .resetOrigin => "RESET_ORIGIN"

end Sys2Proof
end

