-- ==== Sys2Proof/WellFormed.lean ====
section
/-! DEFINITION. Which command requests the interface can express. The widths of R86 are in the types
of `Instr`, so every `Instr` is well-formed; what is checked here is a request as HOST writes it,
with numbers of any size (spec/30_encoding.md R84, R86, R87, spec/44_command_fsm.md R239). -/

namespace Sys2Proof

/-- The operands of a command as written, before the interface fixes their widths (R87). -/
structure WrittenRequest where
  opc : Nat
  pay : List Nat
  maxRetries : Int
  deriving DecidableEq, Repr

/-- The interface expresses a 16-bit opcode, exactly 4 payload bytes (R84) and an unsigned
RETRY_W-bit `max_retries`, so no negative one (R86, R239). An inbound frame has no such check: START
and payload may hold anything (R178, R85), and its length is the parser's to check (R176). -/
def WrittenRequest.wellFormed (r : WrittenRequest) : Bool :=
  decide (r.opc < 2 ^ 16) && decide (r.pay.length = 4) && r.pay.all (fun b => decide (b < 256)) &&
    decide (0 ≤ r.maxRetries) && decide (r.maxRetries < (Config.retryBound : Int))

end Sys2Proof
end

