-- ==== Sys2Proof/Decode.lean ====
section
/-! DEFINITION. The opcode tables (spec/30_encoding.md R74, R75), the parser and classifier of
spec/43_parser.md R175 and R179, the decoder built on them, and after it the encoder. -/

namespace Sys2Proof

open Machine

/-- The opcode of a command and of its acknowledgment (R74, R76). -/
def Command.opcode : Command → Opcode
  | .distOn => 0xB032
  | .distOff => 0xB033
  | .velOn => 0xB034
  | .velOff => 0xB035
  | .stopAll => 0xB03C
  | .clrSmallSignal => 0xB03D
  | .clrVelOverflow => 0xB03F
  | .clrExtCapture => 0xB040
  | .meteoOn => 0xB079
  | .meteoOff => 0xB07A
  | .resetOrigin => 0xB048

/-- Every command, in the order of R74. -/
def Command.all : List Command :=
  [.distOn, .distOff, .velOn, .velOff, .stopAll, .clrSmallSignal, .clrVelOverflow,
   .clrExtCapture, .meteoOn, .meteoOff, .resetOrigin]

/-- The opcode of DIST_DATA (R75). -/
def distDataOpcode : Opcode := 0xB015

/-- The opcode of VEL_DATA (R75). -/
def velDataOpcode : Opcode := 0xB016

/-- The opcode of METEO_DATA (R75). -/
def meteoDataOpcode : Opcode := 0xB00A

/-- The command an opcode names, all 16 bits compared (R74, R76). -/
def commandOfOpcode (o : Opcode) : Option Command :=
  Command.all.find? (fun c => decide (c.opcode = o))

/-- The command row of a command (R74). -/
def Command.request : Command → Payload4 → RetryCount → Instr
  | .distOn => .distOn
  | .distOff => .distOff
  | .velOn => .velOn
  | .velOff => .velOff
  | .stopAll => .stopAll
  | .clrSmallSignal => .clrSmallSignal
  | .clrVelOverflow => .clrVelOverflow
  | .clrExtCapture => .clrExtCapture
  | .meteoOn => .meteoOn
  | .meteoOff => .meteoOff
  | .resetOrigin => .resetOrigin

/-- The acknowledgment row of a command (R76, R187 to R197). -/
def Command.ackFrame : Command → Byte → Payload12 → Instr
  | .distOn => .ackDistOn
  | .distOff => .ackDistOff
  | .velOn => .ackVelOn
  | .velOff => .ackVelOff
  | .stopAll => .ackStopAll
  | .clrSmallSignal => .ackClrSmallSignal
  | .clrVelOverflow => .ackClrVelOverflow
  | .clrExtCapture => .ackClrExtCapture
  | .meteoOn => .ackMeteoOn
  | .meteoOff => .ackMeteoOff
  | .resetOrigin => .ackResetOrigin

/-- What the decoder reads: the direction alone decides the format (R70). -/
inductive CodeUnit where
  /-- The operands of a `cmd_req` (R26, R86). -/
  | request (opc : Opcode) (pay : Payload4) (maxRetries : RetryCount)
  /-- The bytes of a receive window, offset 0 first (R54, R72). -/
  | window (bytes : List Byte)
  deriving DecidableEq, Repr

/-- The request that written operands stand for, where the interface can express them (R86). -/
def WrittenRequest.codeUnit (r : WrittenRequest) : Option CodeUnit :=
  match r.pay with
  | [b0, b1, b2, b3] =>
    if r.wellFormed then
      some (.request (BitVec.ofNat 16 r.opc)
        ⟨BitVec.ofNat 8 b0, BitVec.ofNat 8 b1, BitVec.ofNat 8 b2, BitVec.ofNat 8 b3⟩
        (BitVec.ofNat Config.retryWidth r.maxRetries.toNat))
    else none
  | _ => none

/-- Why a code unit is no instruction of the table. None of these stops the machine: a request with
an unlisted opcode is carried out all the same (R78), and a rejected window enters DESYNC (R182). -/
inductive Reject where
  /-- A request whose opcode is outside R74. -/
  | unlistedCommand (opc : Opcode)
  /-- A window that is not 16 bytes long (R176). -/
  | wrongLength
  /-- A window whose CRC does not match (R177, R199). -/
  | badCrc
  /-- A valid window whose opcode is in neither table (R198). -/
  | unknownOpcode (opc : Opcode)
  deriving DecidableEq, Repr

/-- The frame `try_parse_inbound` yields (R175). -/
structure Frame where
  opc : Opcode
  payload : Payload12
  deriving DecidableEq, Repr

/-- `try_parse_inbound(f)`: exactly 16 bytes and a matching CRC; START is not checked (R175 to
R178). `none` is the verdict invalid. -/
def tryParseInbound : List Byte → Option Frame
  | [st, hi, lo, b0, b1, b2, b3, b4, b5, b6, b7, b8, b9, b10, b11, crc] =>
    if crc8 [st, hi, lo, b0, b1, b2, b3, b4, b5, b6, b7, b8, b9, b10, b11] = crc then
      some ⟨joinOpcode hi lo, ⟨b0, b1, b2, b3, b4, b5, b6, b7, b8, b9, b10, b11⟩⟩
    else none
  | _ => none

/-- The classes of R179. -/
inductive FrameClass where
  | dist | vel | meteo
  | ack (c : Command)
  | unknown | invalid
  deriving DecidableEq, Repr

/-- The class of a valid frame's opcode, all 16 bits compared (R179). -/
def classifyOpcode (o : Opcode) : FrameClass :=
  if o = distDataOpcode then .dist
  else if o = velDataOpcode then .vel
  else if o = meteoDataOpcode then .meteo
  else match commandOfOpcode o with
    | some c => .ack c
    | none => .unknown

/-- `classify(v)` (R179). -/
def classify : Option Frame → FrameClass
  | none => .invalid
  | some f => classifyOpcode f.opc

/-- A receive window read as an instruction: length, then CRC, then opcode class (R271). -/
def decodeWindow (f : List Byte) : Except Reject Instr :=
  if f.length ≠ Config.rxFrameLen then .error .wrongLength
  else match tryParseInbound f with
    | none => .error .badCrc
    | some fr =>
      match classifyOpcode fr.opc with
      | .dist => .ok (.distData (f.headD 0) fr.payload)
      | .vel => .ok (.velData (f.headD 0) fr.payload)
      | .meteo => .ok (.meteoData (f.headD 0) fr.payload)
      | .ack c => .ok (c.ackFrame (f.headD 0) fr.payload)
      | .unknown => .error (.unknownOpcode fr.opc)
      | .invalid => .error .badCrc

/-- The decoder, total on any request and any bytes. -/
def decode : CodeUnit → Except Reject Instr
  | .request opc pay n =>
    match commandOfOpcode opc with
    | some c => .ok (c.request pay n)
    | none => .error (.unlistedCommand opc)
  | .window f => decodeWindow f

/-- The payload in wire order, `p[0]` first (R72). -/
def payloadBytes (p : Payload12) : List Byte :=
  [p.p0, p.p1, p.p2, p.p3, p.p4, p.p5, p.p6, p.p7, p.p8, p.p9, p.p10, p.p11]

/-- The first 15 bytes of an RSP16 frame (R72). -/
def rspBody (start : Byte) (opc : Opcode) (p : Payload12) : List Byte :=
  [start, hiByte opc, loByte opc] ++ payloadBytes p

/-- An RSP16 frame with its CRC (R72, R79). -/
def rspFrame (start : Byte) (opc : Opcode) (p : Payload12) : List Byte :=
  rspBody start opc p ++ [crc8 (rspBody start opc p)]

/-- The code unit of an instruction: a command's request operands (R86), an inbound row's 16 bytes
(R72). -/
def encode : Instr → CodeUnit
  | .distOn pay n => .request Command.distOn.opcode pay n
  | .distOff pay n => .request Command.distOff.opcode pay n
  | .velOn pay n => .request Command.velOn.opcode pay n
  | .velOff pay n => .request Command.velOff.opcode pay n
  | .stopAll pay n => .request Command.stopAll.opcode pay n
  | .clrSmallSignal pay n => .request Command.clrSmallSignal.opcode pay n
  | .clrVelOverflow pay n => .request Command.clrVelOverflow.opcode pay n
  | .clrExtCapture pay n => .request Command.clrExtCapture.opcode pay n
  | .meteoOn pay n => .request Command.meteoOn.opcode pay n
  | .meteoOff pay n => .request Command.meteoOff.opcode pay n
  | .resetOrigin pay n => .request Command.resetOrigin.opcode pay n
  | .distData st p => .window (rspFrame st distDataOpcode p)
  | .velData st p => .window (rspFrame st velDataOpcode p)
  | .meteoData st p => .window (rspFrame st meteoDataOpcode p)
  | .ackDistOn st p => .window (rspFrame st Command.distOn.opcode p)
  | .ackDistOff st p => .window (rspFrame st Command.distOff.opcode p)
  | .ackVelOn st p => .window (rspFrame st Command.velOn.opcode p)
  | .ackVelOff st p => .window (rspFrame st Command.velOff.opcode p)
  | .ackStopAll st p => .window (rspFrame st Command.stopAll.opcode p)
  | .ackClrSmallSignal st p => .window (rspFrame st Command.clrSmallSignal.opcode p)
  | .ackClrVelOverflow st p => .window (rspFrame st Command.clrVelOverflow.opcode p)
  | .ackClrExtCapture st p => .window (rspFrame st Command.clrExtCapture.opcode p)
  | .ackMeteoOn st p => .window (rspFrame st Command.meteoOn.opcode p)
  | .ackMeteoOff st p => .window (rspFrame st Command.meteoOff.opcode p)
  | .ackResetOrigin st p => .window (rspFrame st Command.resetOrigin.opcode p)

/-- The opcode a code unit carries (R71, R72). -/
def CodeUnit.opcode : CodeUnit → Option Opcode
  | .request opc _ _ => some opc
  | .window (_ :: hi :: lo :: _) => some (joinOpcode hi lo)
  | .window _ => none

/-- The code unit of a table word: the table's 16 bits are the OPC field. A command opcode is laid
out as a host request with payload 00 00 00 00 and no retries; any other opcode as an inbound frame
with START 0xAA, a zero payload and its CRC (log 10). -/
def tableUnit (w : Nat) : CodeUnit :=
  match commandOfOpcode (BitVec.ofNat 16 w) with
  | some _ => .request (BitVec.ofNat 16 w) Payload4.zero 0
  | none => .window (rspFrame Config.startByte (BitVec.ofNat 16 w) Payload12.zero)

/-- The instruction the decoder reads from a table word (log 10). -/
def decodeTableWord (nbits w : Nat) : Option Instr :=
  if w < 2 ^ nbits ∧ w < 2 ^ 16 then
    match decode (tableUnit w) with
    | .ok i => some i
    | .error _ => none
  else none

end Sys2Proof
end

