-- ==== Sys2Proof/Machine/State.lean ====
section
/-! DEFINITION. The state of the block (spec/10_state.md), the reasons a step can stop, and the state
after reset (spec/70_reset_and_hazards.md R290). -/

namespace Sys2Proof.Machine

/-- The four agents (R20). -/
inductive Agent where
  | host | writer | reader | device
  deriving DecidableEq, Repr

/-- LSTATE, the lifecycle register (R28). -/
inductive LState where
  | closed | opened | closing
  deriving DecidableEq, Repr

/-- CSTATE, WRITER's control state (R29). -/
inductive CState where
  | idle | clear | send | wait
  deriving DecidableEq, Repr

/-- RSTATE, READER's control state (R35). -/
inductive RState where
  | run | desync | stopped
  deriving DecidableEq, Repr

/-- CRESULT, the outcome of the last command (R34). -/
inductive CResult where
  | none | ok | exhausted
  deriving DecidableEq, Repr

/-- The result of `cmd_done` (R26). -/
inductive CmdOutcome where
  | ok | exhausted
  deriving DecidableEq, Repr

/-- The status of `close_done` (R26, R246). -/
inductive CloseStatus where
  | closeOk | closeError
  deriving DecidableEq, Repr

/-- The completion events the block hands to HOST (R26, R262). -/
inductive Completion where
  | cmdDone (r : CmdOutcome)
  | closeDone (st : CloseStatus)
  deriving DecidableEq, Repr

/-- The error conditions of R260. -/
inductive Cause where
  | ackWaitTimeout | connectionExhausted | desyncCrc | desyncOpcode | shortRead | closeError
  | queueWaitTimeout
  deriving DecidableEq, Repr

/-- One turn of one agent, with the operands and the free draws of its step (R26, R56; log 1, 13).
A WRITER or READER turn names no step: at most one step of either is enabled in a state. -/
inductive Event where
  /-- HOST opens the block; `rxq0` is the parameter RXQ0 (R290). -/
  | openReq (rxq0 : List Byte)
  /-- HOST closes the block (R245). -/
  | closeReq
  /-- HOST's close completes with a freely drawn status (R246). -/
  | closeDone (st : CloseStatus)
  /-- HOST requests a command (R231). -/
  | cmdReq (opc : Opcode) (pay : Payload4) (maxRetries : RetryCount)
  /-- WRITER takes its enabled step; in WAIT with ACK = 0 that is the timeout (R236). -/
  | writer
  /-- READER takes its enabled step; in a window with RXQ empty that is its expiry (R173). -/
  | reader
  /-- DEVICE appends one byte (R21). -/
  | device (b : Byte)
  deriving DecidableEq, Repr

/-- The agent whose turn an event is (R20, R26). -/
def Event.agent : Event → Agent
  | .openReq _ => .host
  | .closeReq => .host
  | .closeDone _ => .host
  | .cmdReq _ _ _ => .host
  | .writer => .writer
  | .reader => .reader
  | .device _ => .device

/-- The four record output channels (R27). -/
inductive Channel where
  | dist | vel | meteoAir | meteoMat
  deriving DecidableEq, Repr

/-- The registers that hold no value after open (R42). -/
inductive Register where
  | opc | pay | rc | txframe | rxbuf
  deriving DecidableEq, Repr

/-- Why the machine stops with a fault. -/
inductive Fault where
  /-- Raised by a read of a register that holds no value: R42 says that a model that reaches one
  "must fault rather than return a value" (so do R264 and R290). Safe: the invariant of Safety.lean
  rules it out, and no value is invented. -/
  | noValue (r : Register)
  deriving DecidableEq, Repr

/-- Why a host step has no meaning (R263). Each is safe: nothing can be proved past it. -/
inductive Refusal where
  /-- Raised by no meaning: the arm of an instruction that has none. Safe. -/
  | notModelled (mnemonic : String)
  /-- Raised by `cmd_req` while LSTATE is not OPEN (R231, R263). Safe. -/
  | cmdReqNotOpen
  /-- Raised by `cmd_req` while a command is in flight (R231, R263, R307). Safe. -/
  | cmdReqInFlight
  /-- Raised by `close` while LSTATE is not OPEN (R245, R263). Safe. -/
  | closeNotOpen
  /-- Raised by `close` while a command is in flight (R245, R263). Safe. -/
  | closeInFlight
  /-- Raised by `open` while LSTATE is not CLOSED (R290, R263). Safe. -/
  | openNotClosed
  /-- Raised by the signed decoder on the empty sequence (R125, R263). Safe. -/
  | sintEmpty
  deriving DecidableEq, Repr

/-- A register that R42 gives "no value" at open: the bits it holds, and whether the block has given it
a value since. Until then a model must treat it as holding no value, and a read faults (R42, R290);
the bits it holds then are the model's (log 6). -/
structure Reg (α : Type) where
  bits : α
  hasValue : Bool
  deriving DecidableEq, Repr

/-- The register that holds the value `v`. -/
def Reg.holding {α : Type} (v : α) : Reg α := ⟨v, true⟩

/-- The register that R42 says holds no value, with the bits `v` in it. -/
def Reg.noValue {α : Type} (v : α) : Reg α := ⟨v, false⟩

/-- Everything the spec gives the block (R42), then the model's own `sched`, `hostLog`, `causeLog`. -/
structure State where
  /-- LSTATE (R28). -/
  lstate : LState
  /-- CSTATE (R29). -/
  cstate : CState
  /-- OPC (R30). -/
  opc : Reg Opcode
  /-- PAY (R31). -/
  pay : Reg Payload4
  /-- RC, a RETRY_W-bit register (R32; log 7). -/
  rc : Reg RetryCount
  /-- TXFRAME (R33; log 21). -/
  txframe : Reg (Vector Byte 8)
  /-- CRESULT (R34). -/
  cresult : CResult
  /-- RSTATE (R35). -/
  rstate : RState
  /-- RACT (R36). -/
  ract : Bool
  /-- RXBUF, byte by byte (R37). -/
  rxbuf : Vector (Reg Byte) 16
  /-- RXCNT, 0..16 (R38). -/
  rxcnt : Fin 17
  /-- STOP (R39). -/
  stop : Bool
  /-- ACK (R40). -/
  ack : Bool
  /-- TOPEN (R25). -/
  topen : Bool
  /-- RXQ, head first (R25). -/
  rxq : List Byte
  /-- TXS, oldest byte first (R25). -/
  txs : List Byte
  /-- OUT_DIST, oldest record first (R27). -/
  outDist : List Payload12
  /-- OUT_VEL (R27). -/
  outVel : List Payload12
  /-- OUT_MAIR (R27). -/
  outMair : List Payload12
  /-- OUT_MMAT (R27). -/
  outMmat : List Payload12
  /-- The model's own: the turns to come, next first (R56; log 1). -/
  sched : List Event
  /-- The model's own: the completion events HOST has seen, oldest first (R26, R282; log 12). -/
  hostLog : List Completion
  /-- The model's own: the causes that occurred, oldest first; no step reads it (R261; log 12). -/
  causeLog : List Cause
  deriving DecidableEq, Repr

/-- A step's outcome in this machine. -/
abbrev Result := Host.Outcome State Fault Refusal

/-- OPC after open: no value (R290); its bits are 0 (log 6). -/
def opcAtOpen : Reg Opcode := .noValue 0

/-- PAY after open: no value (R290); its bits are 0 (log 6). -/
def payAtOpen : Reg Payload4 := .noValue Payload4.zero

/-- RC after open: no value (R290); its bits are 0 (log 6). -/
def rcAtOpen : Reg RetryCount := .noValue 0

/-- TXFRAME after open: no value (R290); its bits are 0 (log 6). -/
def txframeAtOpen : Reg (Vector Byte 8) := .noValue (Vector.replicate 8 0)

/-- RXBUF after open: no value in any byte (R290); its bits are 0 (log 6). -/
def emptyWindow : Vector (Reg Byte) 16 := Vector.replicate 16 (.noValue 0)

/-- The machine before the first open (R292). The registers that are "not present" hold
placeholders (log 5). -/
def State.beforeOpen : State where
  lstate := .closed
  cstate := .idle
  opc := opcAtOpen
  pay := payAtOpen
  rc := rcAtOpen
  txframe := txframeAtOpen
  cresult := .none
  rstate := .stopped
  ract := false
  rxbuf := emptyWindow
  rxcnt := 0
  stop := false
  ack := false
  topen := false
  rxq := []
  txs := []
  outDist := []
  outVel := []
  outMair := []
  outMmat := []
  sched := []
  hostLog := []
  causeLog := []

/-- The machine right after reset, that is, after the first `open` (R243, R290), with RXQ0 = []
(log 4), the registers with no value at zero bits (log 6) and no turn given yet (log 1, 3). -/
def State.reset : State where
  lstate := .opened
  cstate := .idle
  opc := opcAtOpen
  pay := payAtOpen
  rc := rcAtOpen
  txframe := txframeAtOpen
  cresult := .none
  rstate := .run
  ract := false
  rxbuf := emptyWindow
  rxcnt := 0
  stop := false
  ack := false
  topen := true
  rxq := []
  txs := []
  outDist := []
  outVel := []
  outMair := []
  outMmat := []
  sched := []
  hostLog := []
  causeLog := []

end Sys2Proof.Machine
end

