-- ==== Sys2Proof/Machine/Flags.lean ====
section
/-! DEFINITION. The flags ACK and STOP (spec/10_state.md R39, R40), the flag bits of the measurement
payloads (spec/30_encoding.md R80, R81), and the numeric codes of the enumerations (R46, R260). -/

namespace Sys2Proof.Machine

/-- `ACK <- 1`; idempotent (R58, R181). -/
def setAck (s : State) : State := { s with ack := true }

/-- `ACK <- 0`; idempotent (R58, R232). -/
def clearAck (s : State) : State := { s with ack := false }

/-- `STOP <- 1` (R245). -/
def setStop (s : State) : State := { s with stop := true }

/-- velocity_overflow_flag, `p[9]` bit 3 (R80, R200). -/
def velocityOverflowFlag (p : Payload12) : Bool := p.p9.getLsbD 3

/-- laser_state_flag, `p[10]` bit 0 (R80, R200). -/
def laserStateFlag (p : Payload12) : Bool := p.p10.getLsbD 0

/-- small_signal_level_flag, `p[10]` bit 3 inverted (R80, R200). -/
def smallSignalLevelFlag (p : Payload12) : Bool := !p.p10.getLsbD 3

/-- The encoding of LSTATE (R46). -/
def LState.code : LState → Nat
  | .closed => 0
  | .opened => 1
  | .closing => 2

/-- The encoding of CSTATE (R46). -/
def CState.code : CState → Nat
  | .idle => 0
  | .clear => 1
  | .send => 2
  | .wait => 3

/-- The encoding of RSTATE (R46). -/
def RState.code : RState → Nat
  | .run => 0
  | .desync => 1
  | .stopped => 2

/-- The encoding of CRESULT (R46). -/
def CResult.code : CResult → Nat
  | .none => 0
  | .ok => 1
  | .exhausted => 2

/-- The codes of R260. -/
def Cause.code : Cause → Nat
  | .ackWaitTimeout => 1
  | .connectionExhausted => 2
  | .desyncCrc => 3
  | .desyncOpcode => 4
  | .shortRead => 5
  | .closeError => 6
  | .queueWaitTimeout => 7

/-- Which causes HOST sees (R260). -/
def Cause.seenByHost : Cause → Bool
  | .ackWaitTimeout => false
  | .connectionExhausted => true
  | .desyncCrc => false
  | .desyncOpcode => false
  | .shortRead => false
  | .closeError => true
  | .queueWaitTimeout => false

end Sys2Proof.Machine
end

