-- ==== Sys2Proof/Machine/Operands.lean ====
section
/-! DEFINITION. The number readings of byte sequences (spec/00_scope.md R12, spec/41_signed_decoder.md)
and the raw field views of the measurement payloads (spec/43_parser.md R200 to R202). -/

namespace Sys2Proof.Machine

/-- `uint(s)`, big-endian (R12). -/
def uint : List Byte → Nat
  | [] => 0
  | b :: bs => b.toNat * 256 ^ bs.length + uint bs

/-- The inverted sum of R121. -/
def invSum : List Byte → Nat
  | [] => 0
  | b :: bs => (255 - b.toNat) * 256 ^ bs.length + invSum bs

/-- `sint` of a sequence whose first byte is `b` (R121). -/
def sintOf (b : Byte) (bs : List Byte) : Int :=
  if b.toNat < 128 then (uint (b :: bs) : Int) else -((invSum (b :: bs) : Int) + 1)

/-- `sint(s)`, defined for every length of at least 1; the empty sequence is refused (R120, R121,
R125). -/
def sint : List Byte → Except Refusal Int
  | [] => .error .sintEmpty
  | b :: bs => .ok (sintOf b bs)

/-- `enc_n(v)`: the `n` bytes of `v mod 2^(8n)`, big-endian (R124). -/
def encSigned : Nat → Int → List Byte
  | 0, _ => []
  | n + 1, v => BitVec.ofInt 8 (v / 256 ^ n) :: encSigned n v

/-- The fields of a DIST_DATA payload (R80, R200). -/
structure DistView where
  distRaw : Int
  velocityOverflow : Bool
  laserState : Bool
  smallSignalLevel : Bool
  level : Nat
  deriving DecidableEq, Repr

/-- The fields of a VEL_DATA payload (R81, R201). -/
structure VelView where
  velRaw : Int
  velocityOverflow : Bool
  laserState : Bool
  smallSignalLevel : Bool
  level : Nat
  deriving DecidableEq, Repr

/-- The fields of a METEO_DATA payload (R82, R202). -/
structure MeteoView where
  sensorId : Nat
  tempRaw : Int
  humidity : Nat
  battery : Nat
  link : Nat
  pressRaw : Int
  deriving DecidableEq, Repr

/-- `dist_view(p)` (R200). -/
def distView (p : Payload12) : DistView where
  distRaw := sintOf p.p0 [p.p1, p.p2, p.p3, p.p4, p.p5, p.p6]
  velocityOverflow := velocityOverflowFlag p
  laserState := laserStateFlag p
  smallSignalLevel := smallSignalLevelFlag p
  level := uint [p.p11]

/-- `vel_view(p)` (R201). -/
def velView (p : Payload12) : VelView where
  velRaw := sintOf p.p0 [p.p1, p.p2, p.p3]
  velocityOverflow := velocityOverflowFlag p
  laserState := laserStateFlag p
  smallSignalLevel := smallSignalLevelFlag p
  level := uint [p.p11]

/-- press_raw under a given reading of PRESSURE_SIGNED (R202). -/
def pressRaw (signed : Bool) (p : Payload12) : Int :=
  if signed then sintOf p.p6 [p.p7] else (uint [p.p6, p.p7] : Int)

/-- `meteo_view(p)` under a given reading of PRESSURE_SIGNED (R202). -/
def meteoViewWith (signed : Bool) (p : Payload12) : MeteoView where
  sensorId := uint [p.p0]
  tempRaw := sintOf p.p1 [p.p2]
  humidity := uint [p.p3]
  battery := uint [p.p4]
  link := uint [p.p5]
  pressRaw := pressRaw signed p

/-- `meteo_view(p)` of this block, whose PRESSURE_SIGNED is open (R202; log 8). -/
def meteoView (p : Payload12) : MeteoView := meteoViewWith Config.pressureSigned p

/-- The channel that a METEO_DATA record goes to: sensor id 0 is air (R186). -/
def meteoChannel (p : Payload12) : Channel :=
  if p.p0 = 0 then .meteoAir else .meteoMat

end Sys2Proof.Machine
end

