-- ==== Sys2Proof/Machine/Ops.lean ====
section
/-! DEFINITION. The named operations over the state (spec/00_scope.md R13): register reads, the
transport primitives, the output channels, the recovery entry and return of spec/60_exceptions.md
(R267, R268), the host-visible outcomes (R262), and the request step of spec/44_command_fsm.md R231. -/

namespace Sys2Proof.Machine

/-- Read a register. A model that reaches a read of a register that holds no value "must fault rather
than return a value" (R42; R264, and U8 of spec/93_implementation_defined.md). -/
def readReg {α : Type} (r : Register) (x : Reg α) : Except Fault α :=
  if x.hasValue then .ok x.bits else .error (.noValue r)

/-- Read OPC (R30). -/
def readOpc (s : State) : Except Fault Opcode := readReg .opc s.opc

/-- Read PAY (R31). -/
def readPay (s : State) : Except Fault Payload4 := readReg .pay s.pay

/-- Read RC (R32). -/
def readRc (s : State) : Except Fault RetryCount := readReg .rc s.rc

/-- Read TXFRAME (R33). -/
def readTxframe (s : State) : Except Fault (Vector Byte 8) := readReg .txframe s.txframe

/-- Read a row of registers in order, each by the rule of one (R42). -/
def readRegs {α : Type} (r : Register) : List (Reg α) → Except Fault (List α)
  | [] => .ok []
  | x :: xs =>
    match readReg r x, readRegs r xs with
    | .ok v, .ok vs => .ok (v :: vs)
    | .error e, _ => .error e
    | .ok _, .error e => .error e

/-- Read `RXBUF[0..16)` (R174). -/
def readWindow (s : State) : Except Fault (List Byte) := readRegs .rxbuf s.rxbuf.toList

/-- `RxFlush()` (R13). -/
def rxFlush (s : State) : State := { s with rxq := [] }

/-- DEVICE's append to RXQ (R25). -/
def rxAppend (b : Byte) (s : State) : State := { s with rxq := s.rxq ++ [b] }

/-- `TxPush(s)`, in one step, offset 0 first (R13, R54). -/
def txPush (bytes : List Byte) (s : State) : State := { s with txs := s.txs ++ bytes }

/-- `emit CH(p)`; a push is always accepted (R13, R27). -/
def emit (ch : Channel) (p : Payload12) (s : State) : State :=
  match ch with
  | .dist => { s with outDist := s.outDist ++ [p] }
  | .vel => { s with outVel := s.outVel ++ [p] }
  | .meteoAir => { s with outMair := s.outMair ++ [p] }
  | .meteoMat => { s with outMmat := s.outMmat ++ [p] }

/-- Log a cause (R261; log 12). -/
def logCause (c : Cause) (s : State) : State := { s with causeLog := s.causeLog ++ [c] }

/-- Hand a completion event to HOST (R26, R262; log 12). -/
def complete (c : Completion) (s : State) : State := { s with hostLog := s.hostLog ++ [c] }

/-- Write `RXBUF[RXCNT]` and count it (R172). -/
def collectByte (b : Byte) (s : State) (h : s.rxcnt.val < 16) : State :=
  { s with rxbuf := s.rxbuf.set s.rxcnt.val (.holding b) h
           rxcnt := ⟨s.rxcnt.val + 1, Nat.succ_lt_succ h⟩ }

/-- `RACT <- 1; RXCNT <- 0`: a 16-byte read begins (R171). -/
def beginWindow (s : State) : State := { s with ract := true, rxcnt := 0 }

/-- `RXCNT <- 0; RACT <- 0`: the window is over (R173, R174). -/
def closeWindow (s : State) : State := { s with ract := false, rxcnt := 0 }

/-- Desync entry, the block's one recovery entry: it saves nothing and sends READER to DESYNC
(R182, R267). -/
def enterDesync (c : Cause) (s : State) : State := { logCause c s with rstate := .desync }

/-- Return from desync: `RxFlush(); RSTATE <- RUN` (R183, R268). -/
def returnFromDesync (s : State) : State := { rxFlush s with rstate := .run }

/-- CRESULT after `cmd_done(r)` (R34). -/
def CmdOutcome.result : CmdOutcome → CResult
  | .ok => .ok
  | .exhausted => .exhausted

/-- `CRESULT <- r; cmd_done(r); CSTATE <- IDLE` (R235, R236, R262). -/
def finishCommand (r : CmdOutcome) (s : State) : State :=
  { complete (.cmdDone r) s with cresult := r.result, cstate := .idle }

/-- The registers `cmd_req` writes, TXFRAME among them (R231; log 21). -/
def latchCommand (opc : Opcode) (pay : Payload4) (maxRetries : RetryCount) (s : State) : State :=
  { s with opc := .holding opc, pay := .holding pay, rc := .holding maxRetries,
           txframe := .holding (encodeCommand opc pay), cstate := .clear }

/-- The request step `cmd_req(opc, pay, max_retries)`, any opcode (R231, R263). -/
def requestCommand (opc : Opcode) (pay : Payload4) (maxRetries : RetryCount) (s : State) : Result :=
  if s.lstate ≠ .opened then .refused .cmdReqNotOpen
  else if s.cstate ≠ .idle then .refused .cmdReqInFlight
  else .next (latchCommand opc pay maxRetries s)

/-- Do more to the next state of an outcome that has one. -/
def andThen (f : State → State) : Result → Result
  | .next s => .next (f s)
  | .fault r => .fault r
  | .refused r => .refused r

end Sys2Proof.Machine
end

