-- ==== Sys2Proof/Machine/Acks.lean ====
section
/-! DEFINITION. The meanings of the 11 acknowledgments (spec/43_parser.md R181, R187 to R197):
`ACK <- 1`, whatever START, the payload, CSTATE and OPC are. -/

namespace Sys2Proof.Machine

/-- ACK_DIST_ON (R187). -/
def execAckDistOn (_start : Byte) (_p : Payload12) (s : State) : Result := .next (setAck s)

/-- ACK_DIST_OFF (R188). -/
def execAckDistOff (_start : Byte) (_p : Payload12) (s : State) : Result := .next (setAck s)

/-- ACK_VEL_ON (R189). -/
def execAckVelOn (_start : Byte) (_p : Payload12) (s : State) : Result := .next (setAck s)

/-- ACK_VEL_OFF (R190). -/
def execAckVelOff (_start : Byte) (_p : Payload12) (s : State) : Result := .next (setAck s)

/-- ACK_STOP_ALL (R191). -/
def execAckStopAll (_start : Byte) (_p : Payload12) (s : State) : Result := .next (setAck s)

/-- ACK_CLR_SMALL_SIGNAL (R192). -/
def execAckClrSmallSignal (_start : Byte) (_p : Payload12) (s : State) : Result := .next (setAck s)

/-- ACK_CLR_VEL_OVERFLOW (R193). -/
def execAckClrVelOverflow (_start : Byte) (_p : Payload12) (s : State) : Result := .next (setAck s)

/-- ACK_CLR_EXT_CAPTURE (R194). -/
def execAckClrExtCapture (_start : Byte) (_p : Payload12) (s : State) : Result := .next (setAck s)

/-- ACK_METEO_ON (R195). -/
def execAckMeteoOn (_start : Byte) (_p : Payload12) (s : State) : Result := .next (setAck s)

/-- ACK_METEO_OFF (R196). -/
def execAckMeteoOff (_start : Byte) (_p : Payload12) (s : State) : Result := .next (setAck s)

/-- ACK_RESET_ORIGIN (R197). -/
def execAckResetOrigin (_start : Byte) (_p : Payload12) (s : State) : Result := .next (setAck s)

end Sys2Proof.Machine
end

