-- ==== Sys2Proof/Machine/Commands.lean ====
section
/-! DEFINITION. The meanings of the 11 commands (spec/42_framer.md R144 to R154): the request step of
spec/44_command_fsm.md R231 with the command's opcode. WRITER's steps then transmit the frame. -/

namespace Sys2Proof.Machine

/-- DIST_ON (R144). -/
def execDistOn (pay : Payload4) (maxRetries : RetryCount) (s : State) : Result :=
  requestCommand Command.distOn.opcode pay maxRetries s

/-- DIST_OFF (R145). -/
def execDistOff (pay : Payload4) (maxRetries : RetryCount) (s : State) : Result :=
  requestCommand Command.distOff.opcode pay maxRetries s

/-- VEL_ON (R146). -/
def execVelOn (pay : Payload4) (maxRetries : RetryCount) (s : State) : Result :=
  requestCommand Command.velOn.opcode pay maxRetries s

/-- VEL_OFF (R147). -/
def execVelOff (pay : Payload4) (maxRetries : RetryCount) (s : State) : Result :=
  requestCommand Command.velOff.opcode pay maxRetries s

/-- STOP_ALL (R148). -/
def execStopAll (pay : Payload4) (maxRetries : RetryCount) (s : State) : Result :=
  requestCommand Command.stopAll.opcode pay maxRetries s

/-- CLR_SMALL_SIGNAL (R149). -/
def execClrSmallSignal (pay : Payload4) (maxRetries : RetryCount) (s : State) : Result :=
  requestCommand Command.clrSmallSignal.opcode pay maxRetries s

/-- CLR_VEL_OVERFLOW (R150). -/
def execClrVelOverflow (pay : Payload4) (maxRetries : RetryCount) (s : State) : Result :=
  requestCommand Command.clrVelOverflow.opcode pay maxRetries s

/-- CLR_EXT_CAPTURE (R151). -/
def execClrExtCapture (pay : Payload4) (maxRetries : RetryCount) (s : State) : Result :=
  requestCommand Command.clrExtCapture.opcode pay maxRetries s

/-- METEO_ON (R152). -/
def execMeteoOn (pay : Payload4) (maxRetries : RetryCount) (s : State) : Result :=
  requestCommand Command.meteoOn.opcode pay maxRetries s

/-- METEO_OFF (R153). -/
def execMeteoOff (pay : Payload4) (maxRetries : RetryCount) (s : State) : Result :=
  requestCommand Command.meteoOff.opcode pay maxRetries s

/-- RESET_ORIGIN (R154). -/
def execResetOrigin (pay : Payload4) (maxRetries : RetryCount) (s : State) : Result :=
  requestCommand Command.resetOrigin.opcode pay maxRetries s

end Sys2Proof.Machine
end

