-- ==== Sys2Proof/Machine/Responses.lean ====
section
/-! DEFINITION. The meanings of the 3 responses (spec/43_parser.md R184 to R186): the action R180 gives
their class. START is not read (R178), and no flag is written. -/

namespace Sys2Proof.Machine

/-- DIST_DATA: `emit OUT_DIST(p)` (R184). -/
def execDistData (_start : Byte) (p : Payload12) (s : State) : Result := .next (emit .dist p s)

/-- VEL_DATA: `emit OUT_VEL(p)` (R185). -/
def execVelData (_start : Byte) (p : Payload12) (s : State) : Result := .next (emit .vel p s)

/-- METEO_DATA: the sensor id `p[0]` routes the record, which keeps it (R186). -/
def execMeteoData (_start : Byte) (p : Payload12) (s : State) : Result :=
  .next (emit (meteoChannel p) p s)

end Sys2Proof.Machine
end

