-- ==== Sys2Proof/Machine/Dispatch.lean ====
section
/-! DEFINITION. One arm per instruction: the action of its row. -/

namespace Sys2Proof.Machine

def exec (i : Instr) (s : State) : Host.Outcome State Fault Refusal :=
  match i with
  | .distOn pay n => Sys2Proof.Machine.execDistOn pay n s
  | .distOff pay n => Sys2Proof.Machine.execDistOff pay n s
  | .velOn pay n => Sys2Proof.Machine.execVelOn pay n s
  | .velOff pay n => Sys2Proof.Machine.execVelOff pay n s
  | .stopAll pay n => Sys2Proof.Machine.execStopAll pay n s
  | .clrSmallSignal pay n => Sys2Proof.Machine.execClrSmallSignal pay n s
  | .clrVelOverflow pay n => Sys2Proof.Machine.execClrVelOverflow pay n s
  | .clrExtCapture pay n => Sys2Proof.Machine.execClrExtCapture pay n s
  | .meteoOn pay n => Sys2Proof.Machine.execMeteoOn pay n s
  | .meteoOff pay n => Sys2Proof.Machine.execMeteoOff pay n s
  | .resetOrigin pay n => Sys2Proof.Machine.execResetOrigin pay n s
  | .distData st p => Sys2Proof.Machine.execDistData st p s
  | .velData st p => Sys2Proof.Machine.execVelData st p s
  | .meteoData st p => Sys2Proof.Machine.execMeteoData st p s
  | .ackDistOn st p => Sys2Proof.Machine.execAckDistOn st p s
  | .ackDistOff st p => Sys2Proof.Machine.execAckDistOff st p s
  | .ackVelOn st p => Sys2Proof.Machine.execAckVelOn st p s
  | .ackVelOff st p => Sys2Proof.Machine.execAckVelOff st p s
  | .ackStopAll st p => Sys2Proof.Machine.execAckStopAll st p s
  | .ackClrSmallSignal st p => Sys2Proof.Machine.execAckClrSmallSignal st p s
  | .ackClrVelOverflow st p => Sys2Proof.Machine.execAckClrVelOverflow st p s
  | .ackClrExtCapture st p => Sys2Proof.Machine.execAckClrExtCapture st p s
  | .ackMeteoOn st p => Sys2Proof.Machine.execAckMeteoOn st p s
  | .ackMeteoOff st p => Sys2Proof.Machine.execAckMeteoOff st p s
  | .ackResetOrigin st p => Sys2Proof.Machine.execAckResetOrigin st p s

end Sys2Proof.Machine
end

