-- ==== Sys2Proof/Machine/Lifecycle.lean ====
section
/-! DEFINITION. HOST's steps (spec/70_reset_and_hazards.md R290, spec/44_command_fsm.md R231, R245,
R246) and DEVICE's (spec/10_state.md R21). -/

namespace Sys2Proof.Machine

/-- What `open` leaves (R290). TXS and the model's logs are unchanged; `sched` is the model's. -/
def openedState (rxq0 : List Byte) (s : State) : State where
  lstate := .opened
  cstate := .idle
  opc := opcAtOpen
  pay := payAtOpen
  rc := rcAtOpen
  txframe := txframeAtOpen
  cresult := .none
  rstate := .run
  ract := false
  rxbuf := emptyWindow
  rxcnt := 0
  stop := false
  ack := false
  topen := true
  rxq := rxq0
  txs := s.txs
  outDist := []
  outVel := []
  outMair := []
  outMmat := []
  sched := s.sched
  hostLog := s.hostLog
  causeLog := s.causeLog

/-- Open step, the block's reset (R290, R263). -/
def openBlock (rxq0 : List Byte) (s : State) : Result :=
  if s.lstate = .closed then .next (openedState rxq0 s) else .refused .openNotClosed

/-- Close step: `STOP <- 1; LSTATE <- CLOSING` (R245, R263). -/
def closeBlock (s : State) : Result :=
  if s.lstate ≠ .opened then .refused .closeNotOpen
  else if s.cstate ≠ .idle then .refused .closeInFlight
  else .next { setStop s with lstate := .closing }

/-- The cause a close status logs (R260, R266). -/
def closeCauses : CloseStatus → List Cause
  | .closeOk => []
  | .closeError => [.closeError]

/-- Close-completion step with a freely drawn status (R246, R266). Where it is not enabled the turn
passes (log 2). -/
def completeClose (st : CloseStatus) (s : State) : Result :=
  if s.lstate = .closing ∧ s.rstate = .stopped then
    .next { complete (.closeDone st) s with
              topen := false, lstate := .closed, causeLog := s.causeLog ++ closeCauses st }
  else .next s

/-- DEVICE's turn: it may append while TOPEN = 1, and has no step otherwise (R21, R292; log 2). -/
def deviceTurn (b : Byte) (s : State) : Result :=
  if s.topen then .next (rxAppend b s) else .next s

/-- A command request: a listed opcode is an instruction of the table; any other is carried out by
the same request step (R78, R231; log 15). -/
def hostRequest (opc : Opcode) (pay : Payload4) (maxRetries : RetryCount) (s : State) : Result :=
  match decode (.request opc pay maxRetries) with
  | .ok i => exec i s
  | .error _ => requestCommand opc pay maxRetries s

end Sys2Proof.Machine
end

