-- ==== Sys2Proof/Machine/Reader.lean ====
section
/-! DEFINITION. READER's steps (spec/43_parser.md R171 to R174, R183). -/

namespace Sys2Proof.Machine

/-- Iteration-boundary step, the only one that reads STOP (R171). -/
def readerBoundary (s : State) : Result :=
  if s.stop then .next { s with rstate := .stopped } else .next (beginWindow s)

/-- Window-expiry step, a short read: the bytes are discarded, with no pause and no flush (R173). -/
def readerExpire (s : State) : Result := .next (closeWindow (logCause .shortRead s))

/-- Collect step, `RXBUF[RXCNT] <- RxPop()`, or the window's expiry where RXQ is empty (R172,
R173). -/
def readerCollect (s : State) (h : s.rxcnt.val < 16) : Result :=
  match s.rxq with
  | b :: rest => .next (collectByte b { s with rxq := rest } h)
  | [] => readerExpire s

/-- The action of a window's class (R179, R180). A window that is an instruction runs it; an unknown
opcode or an invalid window enters DESYNC (R182, R198, R199). -/
def dispatchWindow (f : List Byte) (s : State) : Result :=
  match decode (.window f) with
  | .ok i => exec i s
  | .error (.unknownOpcode _) => .next (enterDesync .desyncOpcode s)
  | .error _ => .next (enterDesync .desyncCrc s)

/-- Parse-and-dispatch step (R174). -/
def readerParse (s : State) : Result :=
  match readWindow s with
  | .ok f => andThen closeWindow (dispatchWindow f s)
  | .error r => .fault r

/-- READER's turn: its enabled step. In CLOSED and in STOPPED it has none and the turn passes
(R204, R280; log 2). -/
def readerTurn (s : State) : Result :=
  if s.lstate = .closed then .next s
  else match s.rstate with
    | .stopped => .next s
    | .desync => .next (returnFromDesync s)
    | .run =>
      if s.ract then
        if h : s.rxcnt.val < 16 then readerCollect s h else readerParse s
      else readerBoundary s

end Sys2Proof.Machine
end

