-- ==== Sys2Proof/Machine/Writer.lean ====
section
/-! DEFINITION. WRITER's steps (spec/44_command_fsm.md R232 to R236). -/

namespace Sys2Proof.Machine

/-- Clear step: `ACK <- 0; CSTATE <- SEND` (R232). -/
def writerClear (s : State) : Result := .next { clearAck s with cstate := .send }

/-- Send step: `TxPush(TXFRAME); CSTATE <- WAIT` (R233). -/
def writerSend (s : State) : Result :=
  match readTxframe s with
  | .ok f => .next { txPush f.toList s with cstate := .wait }
  | .error r => .fault r

/-- Acknowledged step: `cmd_done(OK)`; ACK is left at 1 and RC as it is (R235). -/
def writerAcknowledged (s : State) : Result := .next (finishCommand .ok s)

/-- Timeout step: `RC <- RC - 1` and retry while RC > 0, else raise CONNECTION_EXHAUSTED (R236, R265,
R269). The guard keeps RC from wrapping (R239). -/
def writerTimeout (s : State) : Result :=
  match readRc s with
  | .ok n =>
    if n = 0 then .next (finishCommand .exhausted (logCause .connectionExhausted s))
    else .next { logCause .ackWaitTimeout s with rc := .holding (n - 1), cstate := .clear }
  | .error r => .fault r

/-- WRITER's turn: its enabled step. In CLOSED and in IDLE it has none and the turn passes (R280,
R29; log 2). In WAIT the level of ACK decides (R234, R272). -/
def writerTurn (s : State) : Result :=
  if s.lstate = .closed then .next s
  else match s.cstate with
    | .idle => .next s
    | .clear => writerClear s
    | .send => writerSend s
    | .wait => if s.ack then writerAcknowledged s else writerTimeout s

end Sys2Proof.Machine
end

