-- ==== Sys2Proof/Machine/Turn.lean ====
section
/-! DEFINITION. One turn of one agent (spec/20_memory.md R56, R57), and how a table word is placed
where the block takes its next instruction (log 3, 10). -/

namespace Sys2Proof.Machine

/-- The step of the agent whose turn it is. -/
def turn (e : Event) (s : State) : Result :=
  match e with
  | .openReq rxq0 => openBlock rxq0 s
  | .closeReq => closeBlock s
  | .closeDone st => completeClose st s
  | .cmdReq opc pay n => hostRequest opc pay n s
  | .writer => writerTurn s
  | .reader => readerTurn s
  | .device b => deviceTurn b s

/-- Take the next turn off the list; with no turn given, no agent moves (log 1). -/
def nextTurn (s : State) : Result :=
  match s.sched with
  | [] => .next s
  | e :: rest => turn e { s with sched := rest }

/-- RXBUF holding the first 16 bytes of a list; a byte past its end holds no value. -/
def windowOf (bytes : List Byte) : Vector (Reg Byte) 16 :=
  Vector.ofFn (fun i => (bytes[i.val]?).elim (.noValue 0) .holding)

/-- The state in which the next turn runs a code unit: a request is HOST's next turn; a window is
full in RXBUF and READER's turn is next. -/
def placeUnit (u : CodeUnit) (s : State) : State :=
  match u with
  | .request opc pay n => { s with sched := .cmdReq opc pay n :: s.sched }
  | .window f =>
    { s with rstate := .run, ract := true, rxcnt := 16, rxbuf := windowOf f,
             sched := .reader :: s.sched }

end Sys2Proof.Machine
end

