-- ==== Sys2Proof/Machine/Step.lean ====
section
/-! DEFINITION. One step of the machine: one atomic transition of one agent (spec/20_memory.md R56). -/

namespace Sys2Proof.Machine

/-- The machine's step: the next turn of the list. -/
def step (s : State) : Host.Outcome State Fault Refusal := nextTurn s

/-- The state whose next step runs the instruction of a table word (log 3, 10). -/
def State.withFetchWord (s : State) (_nbits w : Nat) : State := placeUnit (tableUnit w) s

end Sys2Proof.Machine
end

