-- ==== Sys2Proof/Safety.lean ====
section
/-! DEFINITION. What claims say of a state and of a run: the invariant of the reachable states, the
shape of the transmit log (spec/42_framer.md R155), the host premise of
spec/70_reset_and_hazards.md R297, and fairness and observation (spec/60_exceptions.md R281, R282). -/

namespace Sys2Proof.Machine

/-- What every reachable state satisfies. -/
structure StateInv (s : State) : Prop where
  /-- The block owns the transport exactly while it is not CLOSED (R25, R290, R246). -/
  transport : s.topen = true ↔ s.lstate ≠ .closed
  /-- A command is in flight only while OPEN (R231, R245). -/
  inFlight : s.cstate ≠ .idle → s.lstate = .opened
  /-- A command in flight has its registers written, and TXFRAME is its frame (R33, R264). -/
  latched : s.cstate ≠ .idle → ∃ o p n,
    s.opc = .holding o ∧ s.pay = .holding p ∧ s.rc = .holding n ∧
    s.txframe = .holding (encodeCommand o p)
  /-- STOP is 0 while OPEN (R39, R290). -/
  stopClear : s.lstate = .opened → s.stop = false
  /-- STOP is 1 while CLOSING (R28, R245). -/
  stopSet : s.lstate = .closing → s.stop = true
  /-- READER stops only after the stop flag (R171). -/
  stopped : s.rstate = .stopped → s.lstate ≠ .opened
  /-- In CLOSED, READER is STOPPED (R280). -/
  closedStopped : s.lstate = .closed → s.rstate = .stopped
  /-- A window is open only in RUN (R36). -/
  window : s.ract = true → s.rstate = .run
  /-- Outside a window nothing is counted (R171 to R174). -/
  idleWindow : s.ract = false → s.rxcnt = 0
  /-- The collected offsets of RXBUF hold values (R37, R264). -/
  collected : ∀ (i : Nat) (h : i < 16), i < s.rxcnt.val → (s.rxbuf[i]).hasValue = true

/-- TXS is a sequence of framer outputs (R57, R155). -/
def TxFramed (s : State) : Prop :=
  ∃ frames : List (Opcode × Payload4),
    s.txs = frames.flatMap (fun f => (encodeCommand f.1 f.2).toList)

/-- One command transmitted `k` times (R237). -/
def copies (k : Nat) (frame : Vector Byte 8) : List Byte := (List.replicate k frame.toList).flatten

/-- Run the machine for `k` steps, stopping at the first fault or refusal. -/
def runSteps : Nat → State → Result
  | 0, s => .next s
  | k + 1, s =>
    match step s with
    | .next t => runSteps k t
    | .fault r => .fault r
    | .refused r => .refused r

/-- WRITER has a step. -/
def writerEnabled (s : State) : Prop := s.lstate ≠ .closed ∧ s.cstate ≠ .idle

/-- READER has a step. -/
def readerEnabled (s : State) : Prop := s.lstate ≠ .closed ∧ s.rstate ≠ .stopped

/-- HOST's close completion is enabled (R246). -/
def closeEnabled (s : State) : Prop := s.lstate = .closing ∧ s.rstate = .stopped

/-- An infinite run: the turns `σ` take the states `r` one to the next, with no fault and no refusal. -/
def IsRun (σ : Nat → Event) (r : Nat → State) : Prop :=
  ∀ k, turn (σ k) (r k) = .next (r (k + 1))

/-- Weak fairness of a step: where it stays enabled, its turn comes (R281). -/
def WeaklyFair (enabled : State → Prop) (takes : Event → Prop) (σ : Nat → Event)
    (r : Nat → State) : Prop :=
  ∀ k, (∀ j, k ≤ j → enabled (r j)) → ∃ j, k ≤ j ∧ takes (σ j)

/-- The fairness of R281. WRITER's turn takes its timeout and READER's its flush and its window
expiry where those are enabled, so clauses (b), (c) and (d) are cases of (a). DEVICE is free. -/
structure FairRun (σ : Nat → Event) (r : Nat → State) : Prop where
  run : IsRun σ r
  writerFair : WeaklyFair writerEnabled (fun e => e = .writer) σ r
  readerFair : WeaklyFair readerEnabled (fun e => e = .reader) σ r
  closeFair : WeaklyFair closeEnabled (fun e => ∃ st, e = .closeDone st) σ r

/-- DISTVEL_EXCLUSIVE on a list of HOST's requests, oldest first: `dist` and `vel` say whether a
DIST_ON or a VEL_ON has been sent with no OFF of its own and no STOP_ALL since (R297). -/
def distVelExclusiveFrom : Bool → Bool → List Event → Bool
  | _, _, [] => true
  | dist, vel, .cmdReq opc _ _ :: rest =>
    if opc = Command.distOn.opcode then !vel && distVelExclusiveFrom true vel rest
    else if opc = Command.velOn.opcode then !dist && distVelExclusiveFrom dist true rest
    else if opc = Command.distOff.opcode then distVelExclusiveFrom false vel rest
    else if opc = Command.velOff.opcode then distVelExclusiveFrom dist false rest
    else if opc = Command.stopAll.opcode then distVelExclusiveFrom false false rest
    else distVelExclusiveFrom dist vel rest
  | dist, vel, _ :: rest => distVelExclusiveFrom dist vel rest

/-- DISTVEL_EXCLUSIVE for the turns to come of a block that has been sent neither (R297). -/
def distVelExclusive (turns : List Event) : Bool := distVelExclusiveFrom false false turns

/-- The contents of the four output channels (R27). -/
structure Channels where
  dist : List Payload12
  vel : List Payload12
  mair : List Payload12
  mmat : List Payload12
  deriving DecidableEq, Repr

/-- The output channels of a state. -/
def State.channels (s : State) : Channels := ⟨s.outDist, s.outVel, s.outMair, s.outMmat⟩

/-- What is observed of a run at each of its two kinds of point (R282). -/
inductive Observation where
  /-- (a) A command's `cmd_done(result)`: the result, TXS, ACK, RC and the output channels. -/
  | atCmdDone (result : CmdOutcome) (txs : List Byte) (ack : Bool) (rc : Reg RetryCount)
      (channels : Channels)
  /-- (b) Close completion: the status, TXS and the final output channels. -/
  | atCloseDone (status : CloseStatus) (txs : List Byte) (channels : Channels)
  deriving DecidableEq, Repr

/-- What is observed in the state a completion event leaves (R282). -/
def observeAt (c : Completion) (t : State) : Observation :=
  match c with
  | .cmdDone r => .atCmdDone r t.txs t.ack t.rc t.channels
  | .closeDone st => .atCloseDone st t.txs t.channels

/-- The completion event that the step from `s` to `t` hands to HOST, if it hands one (R26; log 12). -/
def completionOf (s t : State) : Option Completion := (t.hostLog.drop s.hostLog.length).head?

/-- The observation at the step from `s` to `t`: the step is an observation point exactly where it
hands HOST a completion event, `cmd_done` or `close_done` (R282). -/
def observation (s t : State) : Option Observation := (completionOf s t).map (observeAt · t)

/-- What is observed of the first `k` steps of a run, in order (R282). -/
def observations : Nat → State → List Observation
  | 0, _ => []
  | k + 1, s =>
    match step s with
    | .next t => (observation s t).toList ++ observations k t
    | .fault _ => []
    | .refused _ => []

end Sys2Proof.Machine
end

