-- ==== Sys2Proof/Certificates/Slice0/Obligations.lean ====
section
/-! DEFINITION. The statements for the provers. Each docstring names the rule of spec/ it follows; a
clause that is the model's own choice names its log entry. Everywhere `sched` is the model's list of
turns (log 1), `hostLog` its log of HOST's completion events and `causeLog` its log of causes (log 12):
clauses about these three fields are the model's, not the spec's. -/

open Sys2Proof Sys2Proof.Machine

/-! ### Checksum (spec/40_crc8.md) -/

/-- R103, R105: the bit-serial checksum equals the byte-table form, the printed table is T, the
checksum composes over concatenation, and init, update and value compute it. -/
def Obligations.Crc8MatchesByteTable : Prop :=
  (∀ s : List Byte, crc8 s = s.foldl (fun acc b => crcT (acc ^^^ b)) 0xFF) ∧
  crcTable.length = 256 ∧
  (∀ x : Byte, crcTable[x.toNat]? = some (crcT x)) ∧
  (∀ s t : List Byte, crc8 (s ++ t) = crcFrom (crc8 s) t) ∧
  ∀ s : List Byte, crcValue (s.foldl crcUpdate crcInit) = crc8 s

/-- R107: a sequence followed by its checksum has checksum zero; a 16-byte frame is valid exactly
when the checksum of the whole frame is zero. -/
def Obligations.Crc8ResidueIsZero : Prop :=
  (∀ s : List Byte, crc8 (s ++ [crc8 s]) = 0) ∧
  ∀ f : List Byte, f.length = 16 →
    (crc8 (f.take 15) = f.getD 15 0 ↔ crc8 f = 0) ∧
    ((tryParseInbound f).isSome = true ↔ crc8 f = 0)

/-- R108: changing one byte of a valid frame in any way, so also any single bit of it, makes the
parser reject it. -/
def Obligations.ChangedByteIsDetected : Prop :=
  ∀ (f : List Byte) (k : Nat) (b : Byte),
    (tryParseInbound f).isSome = true → k < 16 → b ≠ f.getD k 0 →
      tryParseInbound (f.set k b) = none

/-- R108, R303: bit 7 of START together with bit 0 of the CRC flipped in any valid frame gives a
valid frame with the same opcode and payload. -/
def Obligations.TwoBitBlindSpot : Prop :=
  ∀ (st : Byte) (mid : List Byte) (crc : Byte) (fr : Frame),
    tryParseInbound (st :: (mid ++ [crc])) = some fr →
      tryParseInbound ((st ^^^ 0x80) :: (mid ++ [crc ^^^ 0x01])) = some fr

/-! ### Signed decoder and field views (spec/41_signed_decoder.md, spec/43_parser.md) -/

/-- R122: the decoder gives the two's-complement value of the bytes' pattern, and a wider output is
the pattern's sign extension. -/
def Obligations.SignedDecoderIsTwosComplement : Prop :=
  ∀ (b : Byte) (bs : List Byte),
    sint (b :: bs) = .ok ((uint (b :: bs) : Int) -
      2 ^ (8 * (bs.length + 1)) * (if b.getLsbD 7 then 1 else 0)) ∧
    sint (b :: bs) = .ok (BitVec.ofNat (8 * (bs.length + 1)) (uint (b :: bs))).toInt ∧
    ∀ W, 8 * (bs.length + 1) ≤ W →
      BitVec.ofInt W (sintOf b bs) =
        (BitVec.ofNat (8 * (bs.length + 1)) (uint (b :: bs))).signExtend W

/-- R123: at every width the decoder maps the byte sequences one to one onto the range. -/
def Obligations.SignedDecoderRange : Prop :=
  ∀ N : Nat, 1 ≤ N →
    (∀ s : List Byte, s.length = N → ∃ v : Int, sint s = .ok v ∧
      -2 ^ (8 * N - 1) ≤ v ∧ v < 2 ^ (8 * N - 1)) ∧
    (∀ s s' : List Byte, s.length = N → s'.length = N → sint s = sint s' → s = s') ∧
    ∀ v : Int, -2 ^ (8 * N - 1) ≤ v → v < 2 ^ (8 * N - 1) →
      ∃ s : List Byte, s.length = N ∧ sint s = .ok v

/-- R124: a value in range, encoded in n bytes and decoded, comes back, and the encoding is the n
bytes of the value mod 2^(8n). -/
def Obligations.SignedEncodingRoundTrips : Prop :=
  ∀ (n : Nat) (v : Int), 1 ≤ n → -2 ^ (8 * n - 1) ≤ v → v < 2 ^ (8 * n - 1) →
    (encSigned n v).length = n ∧
    (uint (encSigned n v) : Int) = v % 2 ^ (8 * n) ∧
    sint (encSigned n v) = .ok v

/-- R125, R126: the corner cases of the decoder; the empty sequence is refused. -/
def Obligations.SignedDecoderCorners : Prop :=
  sint [] = .error .sintEmpty ∧
  sint [0x00] = .ok 0 ∧ sint [0x7F] = .ok 127 ∧ sint [0x80] = .ok (-128) ∧
  sint [0xFF] = .ok (-1) ∧ sint [0x00, 0x80] = .ok 128 ∧ sint [0xFF, 0x80] = .ok (-128) ∧
  sint [0x80, 0x00] = .ok (-32768) ∧ sint (List.replicate 7 0xFF) = .ok (-1) ∧
  (∀ s : List Byte, sint (0x00 :: s) = .ok (uint s)) ∧
  ∀ (b : Byte) (bs : List Byte), 128 ≤ b.toNat → sint (0xFF :: b :: bs) = sint (b :: bs)

/-- R200 to R202 with R80 to R82: for every payload, which bytes each raw field is the signed value
of, its range, the masks of the flag bits and the plain bytes. -/
def Obligations.ViewFieldsOfEveryPayload : Prop :=
  ∀ p : Payload12,
    sint [p.p0, p.p1, p.p2, p.p3, p.p4, p.p5, p.p6] = .ok (distView p).distRaw ∧
    sint [p.p0, p.p1, p.p2, p.p3] = .ok (velView p).velRaw ∧
    sint [p.p1, p.p2] = .ok (meteoView p).tempRaw ∧
    (-2 ^ 55 ≤ (distView p).distRaw ∧ (distView p).distRaw < 2 ^ 55) ∧
    (-2 ^ 31 ≤ (velView p).velRaw ∧ (velView p).velRaw < 2 ^ 31) ∧
    (-32768 ≤ (meteoView p).tempRaw ∧ (meteoView p).tempRaw ≤ 32767) ∧
    ((distView p).velocityOverflow = true ↔ p.p9 &&& 0x08 ≠ 0) ∧
    ((distView p).laserState = true ↔ p.p10 &&& 0x01 ≠ 0) ∧
    ((distView p).smallSignalLevel = true ↔ p.p10 &&& 0x08 = 0) ∧
    (distView p).level = p.p11.toNat ∧
    (velView p).velocityOverflow = (distView p).velocityOverflow ∧
    (velView p).laserState = (distView p).laserState ∧
    (velView p).smallSignalLevel = (distView p).smallSignalLevel ∧
    (velView p).level = (distView p).level ∧
    (meteoView p).sensorId = p.p0.toNat ∧ (meteoView p).humidity = p.p3.toNat ∧
    (meteoView p).battery = p.p4.toNat ∧ (meteoView p).link = p.p5.toNat

/-- R82, R202: press_raw reads p[6] and p[7], p[6] first, unsigned or by the signed decoder; the two
readings agree exactly where p[6] is below 0x80 and differ by 2^16 elsewhere; the block's reading is
one of the two. -/
def Obligations.PressureReadingsAgreeBelow32768 : Prop :=
  ∀ p : Payload12,
    pressRaw false p = p.p6.toNat * 256 + p.p7.toNat ∧
    sint [p.p6, p.p7] = .ok (pressRaw true p) ∧
    (p.p6.toNat < 0x80 → pressRaw true p = pressRaw false p) ∧
    (0x80 ≤ p.p6.toNat → pressRaw true p = pressRaw false p - 65536) ∧
    (meteoView p = meteoViewWith true p ∨ meteoView p = meteoViewWith false p)

/-! ### Encoding (spec/30_encoding.md, spec/42_framer.md, spec/43_parser.md) -/

/-- R71, R72, R74 to R76: decoding an instruction's encoding gives the instruction, with every
operand at every value. -/
def Obligations.DecodeOfEncodeIsIdentity : Prop :=
  ∀ i : Instr, decode (encode i) = .ok i

/-- R72, R76: a code unit that decodes to an instruction is that instruction's encoding. -/
def Obligations.EncodeOfDecodeIsIdentity : Prop :=
  ∀ (u : CodeUnit) (i : Instr), decode u = .ok i → encode i = u

/-- Words of spec/95_test_vectors.md and R74 decode to the rows they stand for. -/
def Obligations.SpecWordsDecodeToTheirRows : Prop :=
  decode (.request 0xB03C Payload4.zero 2) = .ok (.stopAll Payload4.zero 2) ∧
  decode (.request 0xB048 ⟨1, 2, 3, 4⟩ 0) = .ok (.resetOrigin ⟨1, 2, 3, 4⟩ 0) ∧
  decode (.window [0xAA, 0xB0, 0x15, 0x00, 0x00, 0x00, 0x1D, 0xCD, 0x65, 0x00, 0x00, 0x00, 0x08,
      0x01, 0x80, 0x5C]) =
    .ok (.distData 0xAA ⟨0x00, 0x00, 0x00, 0x1D, 0xCD, 0x65, 0x00, 0x00, 0x00, 0x08, 0x01, 0x80⟩) ∧
  decode (.window [0xAA, 0xB0, 0x32, 0x01, 0x02, 0x03, 0x04, 0x05, 0x06, 0x07, 0x08, 0x09, 0x0A,
      0x0B, 0x0C, 0x41]) =
    .ok (.ackDistOn 0xAA ⟨0x01, 0x02, 0x03, 0x04, 0x05, 0x06, 0x07, 0x08, 0x09, 0x0A, 0x0B, 0x0C⟩)

/-- R175, R176: the parser accepts exactly the 16-byte windows whose last byte is the checksum of the
first 15, and yields the opcode value and the payload bytes. -/
def Obligations.ParserVerdict : Prop :=
  ∀ (f : List Byte) (fr : Frame),
    tryParseInbound f = some fr ↔
      f.length = 16 ∧ crc8 (f.take 15) = f.getD 15 0 ∧
      fr.opc.toNat = (f.getD 1 0).toNat * 256 + (f.getD 2 0).toNat ∧
      payloadBytes fr.payload = (f.drop 3).take 12

/-- R76, R179: the class of every opcode, all 16 bits compared, and of an invalid verdict. -/
def Obligations.ClassOfEveryOpcode : Prop :=
  classify none = .invalid ∧
  ∀ (o : Opcode) (p : Payload12),
    (classify (some ⟨o, p⟩) = .dist ↔ o = 0xB015) ∧
    (classify (some ⟨o, p⟩) = .vel ↔ o = 0xB016) ∧
    (classify (some ⟨o, p⟩) = .meteo ↔ o = 0xB00A) ∧
    (∀ c : Command, classify (some ⟨o, p⟩) = .ack c ↔ o = c.opcode) ∧
    (classify (some ⟨o, p⟩) = .unknown ↔
      o ∉ [0xB015, 0xB016, 0xB00A, 0xB032, 0xB033, 0xB034, 0xB035, 0xB03C, 0xB03D, 0xB03F, 0xB040,
           0xB079, 0xB07A, 0xB048])

/-- R141, R155: what the framer produces for any opcode and payload; its frame reads back to them. -/
def Obligations.FramerOutput : Prop :=
  ∀ (o : Opcode) (p : Payload4),
    (encodeCommand o p)[0] = 0xAA ∧
    (encodeCommand o p)[1].toNat * 256 + (encodeCommand o p)[2].toNat = o.toNat ∧
    ((encodeCommand o p).toList.drop 3).take 4 = [p.p0, p.p1, p.p2, p.p3] ∧
    crc8 ((encodeCommand o p).toList.take 7) = (encodeCommand o p)[7] ∧
    crc8 (encodeCommand o p).toList = 0 ∧
    tryParseInbound (encodeCommand o p).toList = none ∧
    parseCmd8 (encodeCommand o p).toList = some (o, p)

/-- R73: the fields of the word views of both formats. -/
def Obligations.FrameWordFields : Prop :=
  (∀ (f : Vector Byte 8) (k : Nat) (h : k < 8),
    (cmdWord f).extractLsb' (8 * (7 - k)) 8 = f[k]) ∧
  (∀ f : Vector Byte 8, (cmdWord f).extractLsb' 40 16 = joinOpcode f[1] f[2]) ∧
  (∀ (f : Vector Byte 16) (k : Nat) (h : k < 16),
    (rspWord f).extractLsb' (8 * (15 - k)) 8 = f[k]) ∧
  ∀ f : Vector Byte 16, (rspWord f).extractLsb' 104 16 = joinOpcode f[1] f[2]

/-! ### What each instruction does -/

/-- R231 with R74, R86: each of the 11 commands, requested in OPEN and IDLE, answers the state with
its opcode, payload and budget latched, its frame in TXFRAME and WRITER at CLEAR, and nothing else
changed. -/
def Obligations.CommandsLatchTheirRequest : Prop :=
  ∀ (s : State) (p : Payload4) (n : RetryCount), s.lstate = .opened → s.cstate = .idle →
    exec (.distOn p n) s = .next { s with opc := .holding 0xB032, pay := .holding p, rc := .holding n, txframe := .holding (encodeCommand 0xB032 p), cstate := .clear } ∧
    exec (.distOff p n) s = .next { s with opc := .holding 0xB033, pay := .holding p, rc := .holding n, txframe := .holding (encodeCommand 0xB033 p), cstate := .clear } ∧
    exec (.velOn p n) s = .next { s with opc := .holding 0xB034, pay := .holding p, rc := .holding n, txframe := .holding (encodeCommand 0xB034 p), cstate := .clear } ∧
    exec (.velOff p n) s = .next { s with opc := .holding 0xB035, pay := .holding p, rc := .holding n, txframe := .holding (encodeCommand 0xB035 p), cstate := .clear } ∧
    exec (.stopAll p n) s = .next { s with opc := .holding 0xB03C, pay := .holding p, rc := .holding n, txframe := .holding (encodeCommand 0xB03C p), cstate := .clear } ∧
    exec (.clrSmallSignal p n) s = .next { s with opc := .holding 0xB03D, pay := .holding p, rc := .holding n, txframe := .holding (encodeCommand 0xB03D p), cstate := .clear } ∧
    exec (.clrVelOverflow p n) s = .next { s with opc := .holding 0xB03F, pay := .holding p, rc := .holding n, txframe := .holding (encodeCommand 0xB03F p), cstate := .clear } ∧
    exec (.clrExtCapture p n) s = .next { s with opc := .holding 0xB040, pay := .holding p, rc := .holding n, txframe := .holding (encodeCommand 0xB040 p), cstate := .clear } ∧
    exec (.meteoOn p n) s = .next { s with opc := .holding 0xB079, pay := .holding p, rc := .holding n, txframe := .holding (encodeCommand 0xB079 p), cstate := .clear } ∧
    exec (.meteoOff p n) s = .next { s with opc := .holding 0xB07A, pay := .holding p, rc := .holding n, txframe := .holding (encodeCommand 0xB07A p), cstate := .clear } ∧
    exec (.resetOrigin p n) s = .next { s with opc := .holding 0xB048, pay := .holding p, rc := .holding n, txframe := .holding (encodeCommand 0xB048 p), cstate := .clear }

/-- R184 to R186: each response answers the state with its payload appended to its channel, the
sensor id routing a METEO_DATA record, and nothing else changed. -/
def Obligations.ResponsesEmitTheirRecord : Prop :=
  ∀ (s : State) (st : Byte) (p : Payload12),
    exec (.distData st p) s = .next { s with outDist := s.outDist ++ [p] } ∧
    exec (.velData st p) s = .next { s with outVel := s.outVel ++ [p] } ∧
    (p.p0 = 0 → exec (.meteoData st p) s = .next { s with outMair := s.outMair ++ [p] }) ∧
    (p.p0 ≠ 0 → exec (.meteoData st p) s = .next { s with outMmat := s.outMmat ++ [p] })

/-- R181, R187 to R197: each of the 11 acknowledgments answers the state with ACK set and nothing
else changed, whatever START, the payload, CSTATE and OPC are. -/
def Obligations.AcknowledgmentsSetAck : Prop :=
  ∀ (s : State) (st : Byte) (p : Payload12),
    exec (.ackDistOn st p) s = .next { s with ack := true } ∧
    exec (.ackDistOff st p) s = .next { s with ack := true } ∧
    exec (.ackVelOn st p) s = .next { s with ack := true } ∧
    exec (.ackVelOff st p) s = .next { s with ack := true } ∧
    exec (.ackStopAll st p) s = .next { s with ack := true } ∧
    exec (.ackClrSmallSignal st p) s = .next { s with ack := true } ∧
    exec (.ackClrVelOverflow st p) s = .next { s with ack := true } ∧
    exec (.ackClrExtCapture st p) s = .next { s with ack := true } ∧
    exec (.ackMeteoOn st p) s = .next { s with ack := true } ∧
    exec (.ackMeteoOff st p) s = .next { s with ack := true } ∧
    exec (.ackResetOrigin st p) s = .next { s with ack := true }

/-- R56, R174: where HOST's request or READER's full window decodes to an instruction, the step is
that instruction's action on the state without this turn; after a window's action the window is
closed. How turns are given, and that the action and the window's close are two parts of one step,
are the model's (log 1, 11). -/
def Obligations.StepRunsTheDecodedInstruction : Prop :=
  (∀ (s : State) (o : Opcode) (p : Payload4) (n : RetryCount) (rest : List Event) (i : Instr),
    s.sched = .cmdReq o p n :: rest → decode (.request o p n) = .ok i →
      step s = exec i { s with sched := rest }) ∧
  ∀ (s : State) (f : List Byte) (rest : List Event) (i : Instr),
    s.sched = .reader :: rest → s.lstate ≠ .closed → s.rstate = .run → s.ract = true →
    s.rxcnt = 16 → s.rxbuf = windowOf f → decode (.window f) = .ok i →
      ∃ t, exec i { s with sched := rest } = .next t ∧
        step s = .next { t with ract := false, rxcnt := 0 }

/-! ### HOST's steps -/

/-- R231: a request with any opcode, listed or not, latches its operands in OPEN and IDLE, and is
refused elsewhere. -/
def Obligations.RequestStep : Prop :=
  ∀ (s : State) (o : Opcode) (p : Payload4) (n : RetryCount) (rest : List Event),
    s.sched = .cmdReq o p n :: rest →
      (s.lstate = .opened → s.cstate = .idle →
        step s = .next { s with sched := rest, opc := .holding o, pay := .holding p, rc := .holding n,
                                txframe := .holding (encodeCommand o p), cstate := .clear }) ∧
      (s.lstate ≠ .opened ∨ s.cstate ≠ .idle → ∃ r, step s = .refused r)

/-- R263: a step is refused exactly where HOST breaks a duty, and a refused step ends the run; the
empty sequence is refused by the decoder. -/
def Obligations.OnlyBrokenHostDutiesAreRefused : Prop :=
  sint [] = .error .sintEmpty ∧
  ∀ (s : State) (e : Event) (rest : List Event), s.sched = e :: rest →
    ((∃ r, step s = .refused r) ↔
      ((∃ o p n, e = .cmdReq o p n) ∧ (s.lstate ≠ .opened ∨ s.cstate ≠ .idle)) ∨
      (e = .closeReq ∧ (s.lstate ≠ .opened ∨ s.cstate ≠ .idle)) ∨
      ((∃ q, e = .openReq q) ∧ s.lstate ≠ .closed)) ∧
    ∀ (r : Refusal) (k : Nat), step s = .refused r → runSteps (k + 1) s = .refused r

/-- R290: open writes every register of the block in CLOSED, leaves TXS, and is refused elsewhere.
That the turns to come and the two observation logs stay, and the zero bits in the registers that
R290 leaves with no value, are the model's (log 1, 12, 6). -/
def Obligations.OpenStep : Prop :=
  ∀ (s : State) (q : List Byte) (rest : List Event), s.sched = .openReq q :: rest →
    (s.lstate = .closed →
      step s = .next
        { lstate := .opened, cstate := .idle, opc := .noValue 0, pay := .noValue Payload4.zero,
          rc := .noValue 0, txframe := .noValue (Vector.replicate 8 0), cresult := .none,
          rstate := .run, ract := false, rxbuf := Vector.replicate 16 (.noValue 0), rxcnt := 0, stop := false, ack := false,
          topen := true, rxq := q, txs := s.txs, outDist := [], outVel := [], outMair := [],
          outMmat := [], sched := rest, hostLog := s.hostLog, causeLog := s.causeLog }) ∧
    (s.lstate ≠ .closed → step s = .refused .openNotClosed)

/-- R245: close sets STOP and CLOSING in OPEN and IDLE, changes nothing else, and is refused
elsewhere. -/
def Obligations.CloseStep : Prop :=
  ∀ (s : State) (rest : List Event), s.sched = .closeReq :: rest →
    (s.lstate = .opened → s.cstate = .idle →
      step s = .next { s with sched := rest, stop := true, lstate := .closing }) ∧
    (s.lstate ≠ .opened ∨ s.cstate ≠ .idle → ∃ r, step s = .refused r)

/-- R246, R266, R282 (b): close completion releases the transport, closes the block and hands its
freely drawn status to HOST, whichever the status is; observed are the status, TXS and the final
channels. The log entries are the model's (log 12). -/
def Obligations.CloseCompletionStep : Prop :=
  ∀ (s : State) (st : CloseStatus) (rest : List Event), s.sched = .closeDone st :: rest →
    s.lstate = .closing → s.rstate = .stopped →
      step s = .next { s with
        sched := rest, topen := false, lstate := .closed,
        hostLog := s.hostLog ++ [.closeDone st],
        causeLog := s.causeLog ++ (match st with | .closeOk => [] | .closeError => [.closeError]) } ∧
      ∀ t, step s = .next t → observation s t =
        some (.atCloseDone st s.txs ⟨s.outDist, s.outVel, s.outMair, s.outMmat⟩)

/-- R21, R282: while TOPEN = 1 DEVICE's turn appends its byte to RXQ and changes nothing else, so it is
no observation point and changes nothing that is observed at one. -/
def Obligations.DeviceAppendsOneByte : Prop :=
  ∀ (s : State) (b : Byte) (rest : List Event), s.sched = .device b :: rest → s.topen = true →
    step s = .next { s with sched := rest, rxq := s.rxq ++ [b] } ∧
    observation s { s with sched := rest, rxq := s.rxq ++ [b] } = none ∧
    ∀ c, observeAt c { s with sched := rest, rxq := s.rxq ++ [b] } = observeAt c s

/-- The model's choice (log 4, 6): State.reset is what the first open, with RXQ0 empty, leaves of the
machine before it. -/
def Obligations.ResetIsTheFirstOpen : Prop :=
  step { State.beforeOpen with sched := [.openReq []] } = .next State.reset

/-- The model's choice (log 1, 2): with no turn given, and on a turn of an agent that has no enabled
step, nothing but the list of turns changes. -/
def Obligations.TurnWithoutAStepPasses : Prop :=
  (∀ s : State, s.sched = [] → step s = .next s) ∧
  ∀ (s : State) (e : Event) (rest : List Event), s.sched = e :: rest →
    ((e = .writer ∧ ¬ writerEnabled s) ∨ (e = .reader ∧ ¬ readerEnabled s) ∨
     ((∃ st, e = .closeDone st) ∧ ¬ closeEnabled s) ∨
     ((∃ b, e = .device b) ∧ s.topen = false)) →
      step s = .next { s with sched := rest }

/-! ### WRITER's steps (spec/44_command_fsm.md) -/

/-- R232: the clear step clears ACK and goes to SEND. -/
def Obligations.WriterClearStep : Prop :=
  ∀ (s : State) (rest : List Event), s.sched = .writer :: rest → s.lstate ≠ .closed →
    s.cstate = .clear → step s = .next { s with sched := rest, ack := false, cstate := .send }

/-- R233: the send step appends TXFRAME to TXS, offset 0 first, and goes to WAIT. -/
def Obligations.WriterSendStep : Prop :=
  ∀ (s : State) (f : Vector Byte 8) (rest : List Event), s.sched = .writer :: rest →
    s.lstate ≠ .closed → s.cstate = .send → s.txframe = .holding f →
      step s = .next { s with sched := rest, cstate := .wait, txs := s.txs ++
        [f[0], f[1], f[2], f[3], f[4], f[5], f[6], f[7]] }

/-- R235: in WAIT with ACK = 1 the command ends OK; ACK and RC stay. -/
def Obligations.WriterAcknowledgedStep : Prop :=
  ∀ (s : State) (rest : List Event), s.sched = .writer :: rest → s.lstate ≠ .closed →
    s.cstate = .wait → s.ack = true →
      step s = .next { s with sched := rest, cresult := .ok, cstate := .idle,
                              hostLog := s.hostLog ++ [.cmdDone .ok] }

/-- R236: in WAIT with ACK = 0 the timeout takes one retry while the budget lasts, and raises
CONNECTION_EXHAUSTED at 0; after it the next request is accepted if the block is OPEN. The cause log
entry is the model's (log 12). -/
def Obligations.WriterTimeoutStep : Prop :=
  ∀ (s : State) (n : RetryCount) (rest : List Event), s.sched = .writer :: rest → s.lstate ≠ .closed →
    s.cstate = .wait → s.ack = false → s.rc = .holding n →
      (n ≠ 0 → step s = .next { s with
        sched := rest, rc := .holding (n - 1), cstate := .clear,
        causeLog := s.causeLog ++ [.ackWaitTimeout] }) ∧
      (n = 0 → step s = .next { s with
        sched := rest, cresult := .exhausted, cstate := .idle,
        hostLog := s.hostLog ++ [.cmdDone .exhausted],
        causeLog := s.causeLog ++ [.connectionExhausted] }) ∧
      (n = 0 → s.lstate = .opened → ∀ (o : Opcode) (p : Payload4) (m : RetryCount) (rest' : List Event),
        rest = .cmdReq o p m :: rest' → ∃ t, runSteps 2 s = .next t ∧ t.cstate = .clear)

/-- R237: whatever READER and DEVICE do meanwhile, a command with max_retries = n that has ended was
transmitted k + 1 times, where k is the number of retries taken, k ≤ n, and RC = n - k is left; if it
ended EXHAUSTED then k = n. The retries are counted in the cause log and the outcome is read from the
completion log, which are the model's (log 12). -/
def Obligations.TransmissionCount : Prop :=
  ∀ (s t : State) (o : Opcode) (p : Payload4) (n : RetryCount) (es : List Event),
    s.lstate = .opened → s.cstate = .idle → (∀ e ∈ es, e.agent ≠ .host) →
    runSteps (es.length + 1) { s with sched := .cmdReq o p n :: es } = .next t →
    t.cstate = .idle →
      ∃ k, k ≤ n.toNat ∧
        t.txs = s.txs ++ copies (k + 1) (encodeCommand o p) ∧
        (∃ m, t.rc = .holding m ∧ m.toNat = n.toNat - k) ∧
        t.causeLog.count .ackWaitTimeout = s.causeLog.count .ackWaitTimeout + k ∧
        ((t.cresult = .ok ∧ t.hostLog = s.hostLog ++ [.cmdDone .ok]) ∨
         (t.cresult = .exhausted ∧ t.hostLog = s.hostLog ++ [.cmdDone .exhausted] ∧ k = n.toNat))

/-- R237, the source's property: a command with max_retries = n that is never acknowledged ends
EXHAUSTED after exactly n + 1 transmissions. It does so in 3(n + 1) WRITER turns that follow one
another, and in any turns of WRITER, READER and DEVICE that hold as many WRITER turns, if no step of
the run sets ACK. The completion log is the model's (log 12). -/
def Obligations.UnacknowledgedCommandExhausts : Prop :=
  (∀ (s : State) (o : Opcode) (p : Payload4) (n : RetryCount) (rest : List Event),
    s.lstate = .opened → s.cstate = .idle →
    s.sched = .cmdReq o p n :: (List.replicate (3 * (n.toNat + 1)) Event.writer ++ rest) →
      ∃ t, runSteps (3 * (n.toNat + 1) + 1) s = .next t ∧
        t.cstate = .idle ∧ t.cresult = .exhausted ∧ t.rc = .holding 0 ∧ t.ack = false ∧
        t.lstate = .opened ∧ t.txs = s.txs ++ copies (n.toNat + 1) (encodeCommand o p) ∧
        t.hostLog = s.hostLog ++ [.cmdDone .exhausted] ∧ t.sched = rest) ∧
  ∀ (s : State) (o : Opcode) (p : Payload4) (n : RetryCount) (es rest : List Event),
    StateInv s → s.lstate = .opened → s.cstate = .idle → s.sched = .cmdReq o p n :: (es ++ rest) →
    (∀ e ∈ es, e.agent ≠ .host) → 3 * (n.toNat + 1) ≤ es.count .writer →
    (∀ k u v, k ≤ es.length → runSteps k s = .next u → step u = .next v → u.ack = false →
      v.ack = false) →
      ∃ t, runSteps (es.length + 1) s = .next t ∧
        t.cstate = .idle ∧ t.cresult = .exhausted ∧ t.rc = .holding 0 ∧ t.ack = false ∧
        t.lstate = .opened ∧ t.txs = s.txs ++ copies (n.toNat + 1) (encodeCommand o p) ∧
        t.hostLog = s.hostLog ++ [.cmdDone .exhausted] ∧ t.sched = rest

/-- R238: a command in flight with budget n ends within 3(n + 1) WRITER turns, however READER's and
DEVICE's turns interleave with them. -/
def Obligations.CommandEndsWithinItsBudget : Prop :=
  ∀ (s : State) (n : RetryCount) (es : List Event), StateInv s → s.cstate ≠ .idle → s.rc = .holding n →
    (∀ e ∈ es, e.agent ≠ .host) → 3 * (n.toNat + 1) ≤ es.count .writer →
      ∃ k t, k ≤ es.length ∧ runSteps k { s with sched := es } = .next t ∧ t.cstate = .idle

/-- R240, R298 (c): an acknowledgment of any of the 11 commands completes the command in WAIT,
whatever its opcode is. -/
def Obligations.AnyAcknowledgmentCompletesTheWait : Prop :=
  ∀ (s : State) (c : Command) (st : Byte) (p : Payload12) (rest : List Event),
    s.lstate ≠ .closed → s.cstate = .wait → s.rstate = .run → s.ract = true → s.rxcnt = 16 →
    s.rxbuf = windowOf (rspFrame st c.opcode p) → s.sched = .reader :: .writer :: rest →
      runSteps 2 s = .next { s with
        sched := rest, ract := false, rxcnt := 0, ack := true, cresult := .ok, cstate := .idle,
        hostLog := s.hostLog ++ [.cmdDone .ok] }

/-! ### READER's steps (spec/43_parser.md) -/

/-- R171: at the iteration boundary READER stops if STOP = 1, and else begins a read. -/
def Obligations.ReaderBoundaryStep : Prop :=
  ∀ (s : State) (rest : List Event), s.sched = .reader :: rest → s.lstate ≠ .closed →
    s.rstate = .run → s.ract = false →
      (s.stop = true → step s = .next { s with sched := rest, rstate := .stopped }) ∧
      (s.stop = false → step s = .next { s with sched := rest, ract := true, rxcnt := 0 })

/-- R172: the collect step moves the oldest byte of RXQ, whatever its value, to RXBUF[RXCNT]. -/
def Obligations.ReaderCollectStep : Prop :=
  ∀ (s : State) (k : Nat) (hk : k < 16) (b : Byte) (q : List Byte) (rest : List Event),
    s.sched = .reader :: rest → s.lstate ≠ .closed → s.rstate = .run → s.ract = true →
    s.rxcnt.val = k → s.rxq = b :: q →
      step s = .next { s with sched := rest, rxq := q, rxbuf := s.rxbuf.set k (.holding b) hk,
                              rxcnt := ⟨k + 1, Nat.succ_lt_succ hk⟩ }

/-- R173: a window that expires with RXQ empty drops its bytes, with no pause and no flush. The cause
log entry is the model's (log 12). -/
def Obligations.WindowExpiryStep : Prop :=
  ∀ (s : State) (rest : List Event), s.sched = .reader :: rest → s.lstate ≠ .closed →
    s.rstate = .run → s.ract = true → s.rxcnt.val < 16 → s.rxq = [] →
      step s = .next { s with sched := rest, ract := false, rxcnt := 0,
                              causeLog := s.causeLog ++ [.shortRead] }

/-- R183, R268: the flush step empties RXQ, returns to RUN and restores nothing. -/
def Obligations.DesyncFlushStep : Prop :=
  ∀ (s : State) (rest : List Event), s.sched = .reader :: rest → s.lstate ≠ .closed →
    s.rstate = .desync → step s = .next { s with sched := rest, rxq := [], rstate := .run }

/-- R174, R180, R182: what the parse-and-dispatch step does with a full window, by its verdict and
class. The cause log entries are the model's (log 12). -/
def Obligations.ParseAndDispatchStep : Prop :=
  ∀ (s : State) (f : List Byte) (rest : List Event), s.sched = .reader :: rest →
    s.lstate ≠ .closed → s.rstate = .run → s.ract = true → s.rxcnt = 16 → f.length = 16 →
    s.rxbuf = windowOf f →
      (tryParseInbound f = none →
        step s = .next { s with sched := rest, ract := false, rxcnt := 0, rstate := .desync,
                                causeLog := s.causeLog ++ [.desyncCrc] }) ∧
      ∀ fr : Frame, tryParseInbound f = some fr →
        (classify (some fr) = .dist → step s = .next { s with
          sched := rest, ract := false, rxcnt := 0, outDist := s.outDist ++ [fr.payload] }) ∧
        (classify (some fr) = .vel → step s = .next { s with
          sched := rest, ract := false, rxcnt := 0, outVel := s.outVel ++ [fr.payload] }) ∧
        (classify (some fr) = .meteo → fr.payload.p0 = 0 → step s = .next { s with
          sched := rest, ract := false, rxcnt := 0, outMair := s.outMair ++ [fr.payload] }) ∧
        (classify (some fr) = .meteo → fr.payload.p0 ≠ 0 → step s = .next { s with
          sched := rest, ract := false, rxcnt := 0, outMmat := s.outMmat ++ [fr.payload] }) ∧
        (∀ c, classify (some fr) = .ack c → step s = .next { s with
          sched := rest, ract := false, rxcnt := 0, ack := true }) ∧
        (classify (some fr) = .unknown → step s = .next { s with
          sched := rest, ract := false, rxcnt := 0, rstate := .desync,
          causeLog := s.causeLog ++ [.desyncOpcode] })

/-- R54, R172: sixteen collect steps leave in RXBUF the next sixteen bytes of RXQ, in order. -/
def Obligations.SixteenCollectsFillTheWindow : Prop :=
  ∀ (s : State) (l q : List Byte) (rest : List Event),
    s.sched = List.replicate 16 Event.reader ++ rest → s.lstate ≠ .closed → s.rstate = .run →
    s.ract = true → s.rxcnt = 0 → l.length = 16 → s.rxq = l ++ q →
      runSteps 16 s = .next { s with sched := rest, rxq := q, rxbuf := windowOf l, rxcnt := 16 }

/-- R170: from the iteration boundary, with an inbound row's frame next in RXQ, eighteen READER turns
run that row's action. -/
def Obligations.InboundFrameRunsFromTheLine : Prop :=
  ∀ (s : State) (i : Instr) (f q : List Byte) (rest : List Event),
    encode i = .window f → s.sched = List.replicate 18 Event.reader ++ rest →
    s.lstate ≠ .closed → s.rstate = .run → s.ract = false → s.stop = false → s.rxq = f ++ q →
      ∃ t, exec i { s with sched := rest, rxq := q, rxbuf := windowOf f, ract := true,
                           rxcnt := 16 } = .next t ∧
        runSteps 18 s = .next { t with ract := false, rxcnt := 0 }

/-- R206: an invalid frame, the flush, then a valid DIST_DATA frame give exactly one record. -/
def Obligations.InvalidThenValidFrameGivesOneRecord : Prop :=
  ∀ (s : State) (f : List Byte) (st : Byte) (p : Payload12) (rest : List Event),
    s.lstate ≠ .closed → s.topen = true → s.rstate = .run → s.ract = false → s.stop = false →
    f.length = 16 → tryParseInbound f = none → s.rxq = f →
    s.sched = List.replicate 19 Event.reader ++
      ((rspFrame st 0xB015 p).map Event.device ++ (List.replicate 18 Event.reader ++ rest)) →
      ∃ t, runSteps 53 s = .next t ∧ t.outDist = s.outDist ++ [p] ∧ t.outVel = s.outVel ∧
        t.outMair = s.outMair ∧ t.outMmat = s.outMmat ∧ t.ack = s.ack ∧ t.rstate = .run ∧
        t.rxq = [] ∧ t.txs = s.txs ∧ t.hostLog = s.hostLog

/-- R204: with READER STOPPED, until the next open, no step consumes RXQ, sets ACK or emits a
record. -/
def Obligations.StoppedReaderIsSilent : Prop :=
  ∀ s t : State, s.rstate = .stopped → (∀ q rest, s.sched ≠ .openReq q :: rest) →
    step s = .next t →
      t.rstate = .stopped ∧ s.rxq <+: t.rxq ∧ (t.ack = true → s.ack = true) ∧
      t.outDist = s.outDist ∧ t.outVel = s.outVel ∧ t.outMair = s.outMair ∧
      t.outMmat = s.outMmat

/-- R247: after close, READER is STOPPED once it has had 19 turns, however WRITER's and DEVICE's
turns interleave with them. -/
def Obligations.ReaderStopsWithinOneIteration : Prop :=
  ∀ (s : State) (es : List Event), StateInv s → s.lstate = .closing →
    (∀ e ∈ es, e.agent ≠ .host) → 19 ≤ es.count .reader →
      ∃ t, runSteps es.length { s with sched := es } = .next t ∧ t.rstate = .stopped

/-- R171: READER stops only at the iteration boundary and only when STOP = 1. -/
def Obligations.StopIsSampledOnlyAtTheBoundary : Prop :=
  ∀ s t : State, step s = .next t → s.rstate ≠ .stopped → t.rstate = .stopped →
    s.rstate = .run ∧ s.ract = false ∧ s.stop = true

/-! ### The whole machine -/

/-- R42, R264, R280, R36, R39: every step keeps the invariant. -/
def Obligations.StepKeepsInvariant : Prop :=
  ∀ s t : State, StateInv s → step s = .next t → StateInv t

/-- The invariant holds at reset and before the first open. State.reset and State.beforeOpen hold
values the model chose (log 4, 5, 6). -/
def Obligations.ResetHasInvariant : Prop :=
  StateInv State.reset ∧ StateInv State.beforeOpen ∧ TxFramed State.reset

/-- R264: no step faults in a state with the invariant. -/
def Obligations.NoStepFaults : Prop :=
  ∀ (s : State) (f : Fault), StateInv s → step s ≠ .fault f

/-- R57, R61, R155: TXS stays a sequence of whole framer outputs. -/
def Obligations.StepKeepsTransmitLogFramed : Prop :=
  ∀ s t : State, StateInv s → TxFramed s → step s = .next t → TxFramed t

/-- R44, R275, R42: which agent may change which item of state. That TXFRAME changes only in HOST's turn
is R231 and R290, where R42's row and R33 say that WRITER writes it (log 21). -/
def Obligations.AccessDiscipline : Prop :=
  ∀ (s t : State) (e : Event) (rest : List Event), s.sched = e :: rest → step s = .next t →
    (t.txs ≠ s.txs → e = .writer) ∧
    (s.ack = false → t.ack = true → e = .reader) ∧
    (s.ack = true → t.ack = false → e = .writer ∨ ∃ q, e = .openReq q) ∧
    (t.outDist ≠ s.outDist ∨ t.outVel ≠ s.outVel ∨ t.outMair ≠ s.outMair ∨
      t.outMmat ≠ s.outMmat ∨ t.ract ≠ s.ract ∨ t.rxbuf ≠ s.rxbuf ∨ t.rxcnt ≠ s.rxcnt ∨
      t.rstate ≠ s.rstate → e = .reader ∨ ∃ q, e = .openReq q) ∧
    (¬ s.rxq <+: t.rxq → e = .reader ∨ ∃ q, e = .openReq q) ∧
    (e = .reader → t.rxq <:+ s.rxq) ∧
    (t.lstate ≠ s.lstate ∨ t.topen ≠ s.topen ∨ t.stop ≠ s.stop ∨ t.opc ≠ s.opc ∨ t.pay ≠ s.pay ∨
      t.txframe ≠ s.txframe → e.agent = .host) ∧
    (t.cstate ≠ s.cstate ∨ t.rc ≠ s.rc ∨ t.cresult ≠ s.cresult →
      e.agent = .host ∨ e.agent = .writer) ∧
    (s.stop = true → t.stop = false → ∃ q, e = .openReq q)

/-- R25, R27, R60, R61: the transmit log, and between opens each output channel, only grow at the
tail. The two observation logs do too, which is the model's (log 12). -/
def Obligations.LogsOnlyGrow : Prop :=
  ∀ s t : State, step s = .next t →
    s.txs <+: t.txs ∧ s.hostLog <+: t.hostLog ∧ s.causeLog <+: t.causeLog ∧
    ((∀ q rest, s.sched ≠ .openReq q :: rest) →
      s.outDist <+: t.outDist ∧ s.outVel <+: t.outVel ∧ s.outMair <+: t.outMair ∧
      s.outMmat <+: t.outMmat)

/-- R32, R239: outside a request RC never grows, loses one only in a WRITER turn, and never wraps. -/
def Obligations.RetryBudgetOnlyCountsDown : Prop :=
  ∀ (s t : State) (e : Event) (rest : List Event) (n m : RetryCount), s.sched = e :: rest →
    (∀ o p k, e ≠ .cmdReq o p k) → step s = .next t → s.rc = .holding n → t.rc = .holding m →
      m = n ∨ (e = .writer ∧ s.cstate = .wait ∧ s.ack = false ∧ t.cstate = .clear ∧ n.toNat = m.toNat + 1)

/-- R262, R272: a command's outcome is given by exactly one WRITER step in WAIT, OK only with ACK = 1
and EXHAUSTED only with ACK = 0 and RC = 0, and the block stays in its lifecycle state. R282: that step
is observed with the result, TXS, ACK, RC and the channels, which it leaves as they were; and no step
is observed but such a step and close completion. The completion log is the model's (log 12). -/
def Obligations.CommandOutcomeIsPrecise : Prop :=
  ∀ (s t : State) (e : Event) (rest : List Event), s.sched = e :: rest → step s = .next t →
    (∀ r, t.hostLog = s.hostLog ++ [.cmdDone r] →
      e = .writer ∧ s.cstate = .wait ∧ t.cstate = .idle ∧ t.lstate = s.lstate ∧
      (r = .ok → s.ack = true ∧ t.cresult = .ok) ∧
      (r = .exhausted → s.ack = false ∧ s.rc = .holding 0 ∧ t.cresult = .exhausted) ∧
      observation s t = some (.atCmdDone r s.txs s.ack s.rc
        ⟨s.outDist, s.outVel, s.outMair, s.outMmat⟩)) ∧
    (observation s t ≠ none →
      (e = .writer ∧ s.cstate = .wait) ∨
      ((∃ st, e = .closeDone st) ∧ s.lstate = .closing ∧ s.rstate = .stopped))

/-- R280, R292: in CLOSED, with the transport released, only open has a step. -/
def Obligations.OnlyOpenHasAStepInClosed : Prop :=
  ∀ (s t : State) (e : Event) (rest : List Event), s.sched = e :: rest → s.lstate = .closed →
    s.topen = false → step s = .next t →
      (∃ q, e = .openReq q) ∨ t = { s with sched := rest }

/-! ### Fair runs (spec/60_exceptions.md R281) -/

/-- R238, R281: on a fair run every command in flight ends. FairRun is log 18. -/
def Obligations.FairRunEndsEveryCommand : Prop :=
  ∀ (σ : Nat → Event) (r : Nat → State), FairRun σ r → StateInv (r 0) →
    ∀ k, (r k).cstate ≠ .idle → ∃ j, k ≤ j ∧ (r j).cstate = .idle

/-- R247, R281: on a fair run every close completes. FairRun is log 18. -/
def Obligations.FairRunCompletesEveryClose : Prop :=
  ∀ (σ : Nat → Event) (r : Nat → State), FairRun σ r → StateInv (r 0) →
    ∀ k, (r k).lstate = .closing → ∃ j, k ≤ j ∧ (r j).lstate = .closed

/-- R281: on a fair run, while the block stays OPEN, READER comes back to its boundary infinitely
often. FairRun is log 18. -/
def Obligations.FairRunReturnsToTheBoundary : Prop :=
  ∀ (σ : Nat → Event) (r : Nat → State), FairRun σ r → StateInv (r 0) →
    ∀ k, (∀ j, k ≤ j → (r j).lstate = .opened) →
      ∃ j, k ≤ j ∧ (r j).rstate = .run ∧ (r j).ract = false
end

