-- ==== Sys2Proof/Laws/Codec.lean ====
section
/-! SUPPORT. Lemmas about the checksum, the byte order of the opcode, the opcode table, the parser and
the decoder. -/

namespace Sys2Proof.Machine

@[simp] theorem crcFrom_nil (acc : Byte) : crcFrom acc [] = acc := rfl

@[simp] theorem crcFrom_cons (acc b : Byte) (s : List Byte) :
    crcFrom acc (b :: s) = crcFrom (crcByte acc b) s := rfl

theorem crcFrom_append (acc : Byte) (s t : List Byte) :
    crcFrom acc (s ++ t) = crcFrom (crcFrom acc s) t := by
  simp [crcFrom, List.foldl_append]

/-- The accumulator taken in as a byte leaves zero. -/
theorem crcByte_self (acc : Byte) : crcByte acc acc = 0 := by
  revert acc; decide +kernel

theorem crc8_append_self (s : List Byte) : crc8 (s ++ [crc8 s]) = 0 := by
  simpa [crc8, crcFrom_append] using crcByte_self (crcFrom Config.crcInit s)

@[simp] theorem joinOpcode_hi_lo (o : Opcode) : joinOpcode (hiByte o) (loByte o) = o := by
  apply BitVec.eq_of_getLsbD_eq
  intro i hi
  simp only [joinOpcode, hiByte, loByte, BitVec.getLsbD_append, BitVec.getLsbD_extractLsb']
  by_cases h : i < 8
  · simp [h]
  · simp [h, show i - 8 < 8 by omega, show 8 + (i - 8) = i by omega]

@[simp] theorem hiByte_join (hi lo : Byte) : hiByte (joinOpcode hi lo) = hi := by
  apply BitVec.eq_of_getLsbD_eq
  intro i h
  rw [joinOpcode, hiByte, BitVec.getLsbD_extractLsb', BitVec.getLsbD_append]
  simp [h]

@[simp] theorem loByte_join (hi lo : Byte) : loByte (joinOpcode hi lo) = lo := by
  apply BitVec.eq_of_getLsbD_eq
  intro i h
  rw [joinOpcode, loByte, BitVec.getLsbD_extractLsb', BitVec.getLsbD_append]
  simp [h]

end Sys2Proof.Machine

namespace Sys2Proof

open Machine

@[simp] theorem commandOfOpcode_opcode (c : Command) : commandOfOpcode c.opcode = some c := by
  cases c <;> rfl

theorem commandOfOpcode_eq_some {o : Opcode} {c : Command} (h : commandOfOpcode o = some c) :
    o = c.opcode := by
  simpa [eq_comm] using List.find?_some h

/-- No command opcode is a response opcode (R76). -/
theorem Command.opcode_ne_response (c : Command) :
    c.opcode ≠ distDataOpcode ∧ c.opcode ≠ velDataOpcode ∧ c.opcode ≠ meteoDataOpcode := by
  cases c <;> decide

@[simp] theorem classifyOpcode_command (c : Command) : classifyOpcode c.opcode = .ack c := by
  obtain ⟨h1, h2, h3⟩ := c.opcode_ne_response
  simp [classifyOpcode, h1, h2, h3]

@[simp] theorem classifyOpcode_dist : classifyOpcode distDataOpcode = .dist := rfl
@[simp] theorem classifyOpcode_vel : classifyOpcode velDataOpcode = .vel := rfl
@[simp] theorem classifyOpcode_meteo : classifyOpcode meteoDataOpcode = .meteo := rfl

/-- What each class says of the opcode. -/
theorem classifyOpcode_cases (o : Opcode) :
    (o = distDataOpcode ∧ classifyOpcode o = .dist) ∨
    (o = velDataOpcode ∧ classifyOpcode o = .vel) ∨
    (o = meteoDataOpcode ∧ classifyOpcode o = .meteo) ∨
    (∃ c : Command, o = c.opcode ∧ classifyOpcode o = .ack c) ∨
    (commandOfOpcode o = none ∧ classifyOpcode o = .unknown) := by
  by_cases h1 : o = distDataOpcode
  · exact .inl ⟨h1, h1 ▸ rfl⟩
  by_cases h2 : o = velDataOpcode
  · exact .inr (.inl ⟨h2, h2 ▸ rfl⟩)
  by_cases h3 : o = meteoDataOpcode
  · exact .inr (.inr (.inl ⟨h3, h3 ▸ rfl⟩))
  cases h : commandOfOpcode o with
  | some c => exact .inr (.inr (.inr (.inl ⟨c, commandOfOpcode_eq_some h, by simp [classifyOpcode, *]⟩)))
  | none => exact .inr (.inr (.inr (.inr ⟨rfl, by simp [classifyOpcode, *]⟩)))

@[simp] theorem payloadBytes_length (p : Payload12) : (payloadBytes p).length = 12 := rfl

theorem rspFrame_length (st : Byte) (o : Opcode) (p : Payload12) :
    (rspFrame st o p).length = Config.rxFrameLen := rfl

theorem crc8_rspFrame (st : Byte) (o : Opcode) (p : Payload12) : crc8 (rspFrame st o p) = 0 :=
  crc8_append_self _

/-- A window that parses is the RSP16 frame of its parts (R72, R175). -/
theorem tryParseInbound_eq_some {f : List Byte} {fr : Frame} (h : tryParseInbound f = some fr) :
    ∃ st, f = rspFrame st fr.opc fr.payload := by
  unfold tryParseInbound at h
  split at h
  · rename_i st hi lo b0 b1 b2 b3 b4 b5 b6 b7 b8 b9 b10 b11 crc
    split at h
    · rename_i hc
      cases h
      refine ⟨st, ?_⟩
      simp only [rspFrame, rspBody, payloadBytes, hiByte_join, loByte_join, List.cons_append,
        List.nil_append, hc]
    · cases h
  · cases h

/-- Every window the decoder accepts is the frame of its opcode, and the row is that of its class. -/
theorem decodeWindow_ok {f : List Byte} {i : Instr} (h : decodeWindow f = .ok i) :
    ∃ st p, (f = rspFrame st distDataOpcode p ∧ i = .distData st p) ∨
      (f = rspFrame st velDataOpcode p ∧ i = .velData st p) ∨
      (f = rspFrame st meteoDataOpcode p ∧ i = .meteoData st p) ∨
      (∃ c : Command, f = rspFrame st c.opcode p ∧ i = c.ackFrame st p) := by
  unfold decodeWindow at h
  split at h
  · cases h
  · split at h
    · cases h
    · rename_i fr hfr
      obtain ⟨st, rfl⟩ := tryParseInbound_eq_some hfr
      have hst : (rspFrame st fr.opc fr.payload).headD 0 = st := rfl
      rw [hst] at h
      refine ⟨st, fr.payload, ?_⟩
      rcases classifyOpcode_cases fr.opc with ⟨ho, hc⟩ | ⟨ho, hc⟩ | ⟨ho, hc⟩ | ⟨c, ho, hc⟩ | ⟨-, hc⟩ <;>
        rw [hc] at h <;> cases h
      · exact .inl ⟨by rw [ho], rfl⟩
      · exact .inr (.inl ⟨by rw [ho], rfl⟩)
      · exact .inr (.inr (.inl ⟨by rw [ho], rfl⟩))
      · exact .inr (.inr (.inr ⟨c, by rw [ho], rfl⟩))

/-- What the decoder makes of a request: the command row of its opcode, or nothing of the table. -/
theorem decode_request_cases (o : Opcode) (p : Payload4) (n : RetryCount) :
    (∃ c : Command, o = c.opcode ∧ decode (.request o p n) = .ok (c.request p n)) ∨
    (commandOfOpcode o = none ∧ decode (.request o p n) = .error (.unlistedCommand o)) := by
  cases h : commandOfOpcode o with
  | some c => exact .inl ⟨c, commandOfOpcode_eq_some h, by simp [decode, h]⟩
  | none => exact .inr ⟨rfl, by simp [decode, h]⟩

end Sys2Proof
end

