-- ==== Sys2Proof/Laws/State.lean ====
section
/-! SUPPORT. One lemma per field per named update of the state, each true by rfl, so that no proof
unfolds a record update. -/

namespace Sys2Proof.Machine

/-! ### Reg -/

@[simp] theorem Reg.holding_bits {α : Type} (v : α) : (Reg.holding v).bits = v := rfl
@[simp] theorem Reg.holding_hasValue {α : Type} (v : α) : (Reg.holding v).hasValue = true := rfl
@[simp] theorem Reg.noValue_bits {α : Type} (v : α) : (Reg.noValue v).bits = v := rfl
@[simp] theorem Reg.noValue_hasValue {α : Type} (v : α) : (Reg.noValue v).hasValue = false := rfl

@[simp] theorem Reg.holding_inj {α : Type} {v w : α} : Reg.holding v = .holding w ↔ v = w :=
  ⟨congrArg Reg.bits, congrArg Reg.holding⟩

@[simp] theorem Reg.noValue_ne_holding {α : Type} (v w : α) : Reg.noValue v ≠ .holding w :=
  fun h => Bool.noConfusion (congrArg Reg.hasValue h)

/-! ### setAck -/

@[simp] theorem setAck_lstate (s : State) : (setAck s).lstate = s.lstate := rfl
@[simp] theorem setAck_cstate (s : State) : (setAck s).cstate = s.cstate := rfl
@[simp] theorem setAck_opc (s : State) : (setAck s).opc = s.opc := rfl
@[simp] theorem setAck_pay (s : State) : (setAck s).pay = s.pay := rfl
@[simp] theorem setAck_rc (s : State) : (setAck s).rc = s.rc := rfl
@[simp] theorem setAck_txframe (s : State) : (setAck s).txframe = s.txframe := rfl
@[simp] theorem setAck_cresult (s : State) : (setAck s).cresult = s.cresult := rfl
@[simp] theorem setAck_rstate (s : State) : (setAck s).rstate = s.rstate := rfl
@[simp] theorem setAck_ract (s : State) : (setAck s).ract = s.ract := rfl
@[simp] theorem setAck_rxbuf (s : State) : (setAck s).rxbuf = s.rxbuf := rfl
@[simp] theorem setAck_rxcnt (s : State) : (setAck s).rxcnt = s.rxcnt := rfl
@[simp] theorem setAck_stop (s : State) : (setAck s).stop = s.stop := rfl
@[simp] theorem setAck_ack (s : State) : (setAck s).ack = true := rfl
@[simp] theorem setAck_topen (s : State) : (setAck s).topen = s.topen := rfl
@[simp] theorem setAck_rxq (s : State) : (setAck s).rxq = s.rxq := rfl
@[simp] theorem setAck_txs (s : State) : (setAck s).txs = s.txs := rfl
@[simp] theorem setAck_outDist (s : State) : (setAck s).outDist = s.outDist := rfl
@[simp] theorem setAck_outVel (s : State) : (setAck s).outVel = s.outVel := rfl
@[simp] theorem setAck_outMair (s : State) : (setAck s).outMair = s.outMair := rfl
@[simp] theorem setAck_outMmat (s : State) : (setAck s).outMmat = s.outMmat := rfl
@[simp] theorem setAck_sched (s : State) : (setAck s).sched = s.sched := rfl
@[simp] theorem setAck_hostLog (s : State) : (setAck s).hostLog = s.hostLog := rfl
@[simp] theorem setAck_causeLog (s : State) : (setAck s).causeLog = s.causeLog := rfl

/-! ### clearAck -/

@[simp] theorem clearAck_lstate (s : State) : (clearAck s).lstate = s.lstate := rfl
@[simp] theorem clearAck_cstate (s : State) : (clearAck s).cstate = s.cstate := rfl
@[simp] theorem clearAck_opc (s : State) : (clearAck s).opc = s.opc := rfl
@[simp] theorem clearAck_pay (s : State) : (clearAck s).pay = s.pay := rfl
@[simp] theorem clearAck_rc (s : State) : (clearAck s).rc = s.rc := rfl
@[simp] theorem clearAck_txframe (s : State) : (clearAck s).txframe = s.txframe := rfl
@[simp] theorem clearAck_cresult (s : State) : (clearAck s).cresult = s.cresult := rfl
@[simp] theorem clearAck_rstate (s : State) : (clearAck s).rstate = s.rstate := rfl
@[simp] theorem clearAck_ract (s : State) : (clearAck s).ract = s.ract := rfl
@[simp] theorem clearAck_rxbuf (s : State) : (clearAck s).rxbuf = s.rxbuf := rfl
@[simp] theorem clearAck_rxcnt (s : State) : (clearAck s).rxcnt = s.rxcnt := rfl
@[simp] theorem clearAck_stop (s : State) : (clearAck s).stop = s.stop := rfl
@[simp] theorem clearAck_ack (s : State) : (clearAck s).ack = false := rfl
@[simp] theorem clearAck_topen (s : State) : (clearAck s).topen = s.topen := rfl
@[simp] theorem clearAck_rxq (s : State) : (clearAck s).rxq = s.rxq := rfl
@[simp] theorem clearAck_txs (s : State) : (clearAck s).txs = s.txs := rfl
@[simp] theorem clearAck_outDist (s : State) : (clearAck s).outDist = s.outDist := rfl
@[simp] theorem clearAck_outVel (s : State) : (clearAck s).outVel = s.outVel := rfl
@[simp] theorem clearAck_outMair (s : State) : (clearAck s).outMair = s.outMair := rfl
@[simp] theorem clearAck_outMmat (s : State) : (clearAck s).outMmat = s.outMmat := rfl
@[simp] theorem clearAck_sched (s : State) : (clearAck s).sched = s.sched := rfl
@[simp] theorem clearAck_hostLog (s : State) : (clearAck s).hostLog = s.hostLog := rfl
@[simp] theorem clearAck_causeLog (s : State) : (clearAck s).causeLog = s.causeLog := rfl

/-! ### setStop -/

@[simp] theorem setStop_lstate (s : State) : (setStop s).lstate = s.lstate := rfl
@[simp] theorem setStop_cstate (s : State) : (setStop s).cstate = s.cstate := rfl
@[simp] theorem setStop_opc (s : State) : (setStop s).opc = s.opc := rfl
@[simp] theorem setStop_pay (s : State) : (setStop s).pay = s.pay := rfl
@[simp] theorem setStop_rc (s : State) : (setStop s).rc = s.rc := rfl
@[simp] theorem setStop_txframe (s : State) : (setStop s).txframe = s.txframe := rfl
@[simp] theorem setStop_cresult (s : State) : (setStop s).cresult = s.cresult := rfl
@[simp] theorem setStop_rstate (s : State) : (setStop s).rstate = s.rstate := rfl
@[simp] theorem setStop_ract (s : State) : (setStop s).ract = s.ract := rfl
@[simp] theorem setStop_rxbuf (s : State) : (setStop s).rxbuf = s.rxbuf := rfl
@[simp] theorem setStop_rxcnt (s : State) : (setStop s).rxcnt = s.rxcnt := rfl
@[simp] theorem setStop_stop (s : State) : (setStop s).stop = true := rfl
@[simp] theorem setStop_ack (s : State) : (setStop s).ack = s.ack := rfl
@[simp] theorem setStop_topen (s : State) : (setStop s).topen = s.topen := rfl
@[simp] theorem setStop_rxq (s : State) : (setStop s).rxq = s.rxq := rfl
@[simp] theorem setStop_txs (s : State) : (setStop s).txs = s.txs := rfl
@[simp] theorem setStop_outDist (s : State) : (setStop s).outDist = s.outDist := rfl
@[simp] theorem setStop_outVel (s : State) : (setStop s).outVel = s.outVel := rfl
@[simp] theorem setStop_outMair (s : State) : (setStop s).outMair = s.outMair := rfl
@[simp] theorem setStop_outMmat (s : State) : (setStop s).outMmat = s.outMmat := rfl
@[simp] theorem setStop_sched (s : State) : (setStop s).sched = s.sched := rfl
@[simp] theorem setStop_hostLog (s : State) : (setStop s).hostLog = s.hostLog := rfl
@[simp] theorem setStop_causeLog (s : State) : (setStop s).causeLog = s.causeLog := rfl

/-! ### rxFlush -/

@[simp] theorem rxFlush_lstate (s : State) : (rxFlush s).lstate = s.lstate := rfl
@[simp] theorem rxFlush_cstate (s : State) : (rxFlush s).cstate = s.cstate := rfl
@[simp] theorem rxFlush_opc (s : State) : (rxFlush s).opc = s.opc := rfl
@[simp] theorem rxFlush_pay (s : State) : (rxFlush s).pay = s.pay := rfl
@[simp] theorem rxFlush_rc (s : State) : (rxFlush s).rc = s.rc := rfl
@[simp] theorem rxFlush_txframe (s : State) : (rxFlush s).txframe = s.txframe := rfl
@[simp] theorem rxFlush_cresult (s : State) : (rxFlush s).cresult = s.cresult := rfl
@[simp] theorem rxFlush_rstate (s : State) : (rxFlush s).rstate = s.rstate := rfl
@[simp] theorem rxFlush_ract (s : State) : (rxFlush s).ract = s.ract := rfl
@[simp] theorem rxFlush_rxbuf (s : State) : (rxFlush s).rxbuf = s.rxbuf := rfl
@[simp] theorem rxFlush_rxcnt (s : State) : (rxFlush s).rxcnt = s.rxcnt := rfl
@[simp] theorem rxFlush_stop (s : State) : (rxFlush s).stop = s.stop := rfl
@[simp] theorem rxFlush_ack (s : State) : (rxFlush s).ack = s.ack := rfl
@[simp] theorem rxFlush_topen (s : State) : (rxFlush s).topen = s.topen := rfl
@[simp] theorem rxFlush_rxq (s : State) : (rxFlush s).rxq = [] := rfl
@[simp] theorem rxFlush_txs (s : State) : (rxFlush s).txs = s.txs := rfl
@[simp] theorem rxFlush_outDist (s : State) : (rxFlush s).outDist = s.outDist := rfl
@[simp] theorem rxFlush_outVel (s : State) : (rxFlush s).outVel = s.outVel := rfl
@[simp] theorem rxFlush_outMair (s : State) : (rxFlush s).outMair = s.outMair := rfl
@[simp] theorem rxFlush_outMmat (s : State) : (rxFlush s).outMmat = s.outMmat := rfl
@[simp] theorem rxFlush_sched (s : State) : (rxFlush s).sched = s.sched := rfl
@[simp] theorem rxFlush_hostLog (s : State) : (rxFlush s).hostLog = s.hostLog := rfl
@[simp] theorem rxFlush_causeLog (s : State) : (rxFlush s).causeLog = s.causeLog := rfl

/-! ### rxAppend -/

@[simp] theorem rxAppend_lstate (b : Byte) (s : State) : (rxAppend b s).lstate = s.lstate := rfl
@[simp] theorem rxAppend_cstate (b : Byte) (s : State) : (rxAppend b s).cstate = s.cstate := rfl
@[simp] theorem rxAppend_opc (b : Byte) (s : State) : (rxAppend b s).opc = s.opc := rfl
@[simp] theorem rxAppend_pay (b : Byte) (s : State) : (rxAppend b s).pay = s.pay := rfl
@[simp] theorem rxAppend_rc (b : Byte) (s : State) : (rxAppend b s).rc = s.rc := rfl
@[simp] theorem rxAppend_txframe (b : Byte) (s : State) : (rxAppend b s).txframe = s.txframe := rfl
@[simp] theorem rxAppend_cresult (b : Byte) (s : State) : (rxAppend b s).cresult = s.cresult := rfl
@[simp] theorem rxAppend_rstate (b : Byte) (s : State) : (rxAppend b s).rstate = s.rstate := rfl
@[simp] theorem rxAppend_ract (b : Byte) (s : State) : (rxAppend b s).ract = s.ract := rfl
@[simp] theorem rxAppend_rxbuf (b : Byte) (s : State) : (rxAppend b s).rxbuf = s.rxbuf := rfl
@[simp] theorem rxAppend_rxcnt (b : Byte) (s : State) : (rxAppend b s).rxcnt = s.rxcnt := rfl
@[simp] theorem rxAppend_stop (b : Byte) (s : State) : (rxAppend b s).stop = s.stop := rfl
@[simp] theorem rxAppend_ack (b : Byte) (s : State) : (rxAppend b s).ack = s.ack := rfl
@[simp] theorem rxAppend_topen (b : Byte) (s : State) : (rxAppend b s).topen = s.topen := rfl
@[simp] theorem rxAppend_rxq (b : Byte) (s : State) : (rxAppend b s).rxq = s.rxq ++ [b] := rfl
@[simp] theorem rxAppend_txs (b : Byte) (s : State) : (rxAppend b s).txs = s.txs := rfl
@[simp] theorem rxAppend_outDist (b : Byte) (s : State) : (rxAppend b s).outDist = s.outDist := rfl
@[simp] theorem rxAppend_outVel (b : Byte) (s : State) : (rxAppend b s).outVel = s.outVel := rfl
@[simp] theorem rxAppend_outMair (b : Byte) (s : State) : (rxAppend b s).outMair = s.outMair := rfl
@[simp] theorem rxAppend_outMmat (b : Byte) (s : State) : (rxAppend b s).outMmat = s.outMmat := rfl
@[simp] theorem rxAppend_sched (b : Byte) (s : State) : (rxAppend b s).sched = s.sched := rfl
@[simp] theorem rxAppend_hostLog (b : Byte) (s : State) : (rxAppend b s).hostLog = s.hostLog := rfl
@[simp] theorem rxAppend_causeLog (b : Byte) (s : State) : (rxAppend b s).causeLog = s.causeLog := rfl

/-! ### txPush -/

@[simp] theorem txPush_lstate (bs : List Byte) (s : State) : (txPush bs s).lstate = s.lstate := rfl
@[simp] theorem txPush_cstate (bs : List Byte) (s : State) : (txPush bs s).cstate = s.cstate := rfl
@[simp] theorem txPush_opc (bs : List Byte) (s : State) : (txPush bs s).opc = s.opc := rfl
@[simp] theorem txPush_pay (bs : List Byte) (s : State) : (txPush bs s).pay = s.pay := rfl
@[simp] theorem txPush_rc (bs : List Byte) (s : State) : (txPush bs s).rc = s.rc := rfl
@[simp] theorem txPush_txframe (bs : List Byte) (s : State) : (txPush bs s).txframe = s.txframe := rfl
@[simp] theorem txPush_cresult (bs : List Byte) (s : State) : (txPush bs s).cresult = s.cresult := rfl
@[simp] theorem txPush_rstate (bs : List Byte) (s : State) : (txPush bs s).rstate = s.rstate := rfl
@[simp] theorem txPush_ract (bs : List Byte) (s : State) : (txPush bs s).ract = s.ract := rfl
@[simp] theorem txPush_rxbuf (bs : List Byte) (s : State) : (txPush bs s).rxbuf = s.rxbuf := rfl
@[simp] theorem txPush_rxcnt (bs : List Byte) (s : State) : (txPush bs s).rxcnt = s.rxcnt := rfl
@[simp] theorem txPush_stop (bs : List Byte) (s : State) : (txPush bs s).stop = s.stop := rfl
@[simp] theorem txPush_ack (bs : List Byte) (s : State) : (txPush bs s).ack = s.ack := rfl
@[simp] theorem txPush_topen (bs : List Byte) (s : State) : (txPush bs s).topen = s.topen := rfl
@[simp] theorem txPush_rxq (bs : List Byte) (s : State) : (txPush bs s).rxq = s.rxq := rfl
@[simp] theorem txPush_txs (bs : List Byte) (s : State) : (txPush bs s).txs = s.txs ++ bs := rfl
@[simp] theorem txPush_outDist (bs : List Byte) (s : State) : (txPush bs s).outDist = s.outDist := rfl
@[simp] theorem txPush_outVel (bs : List Byte) (s : State) : (txPush bs s).outVel = s.outVel := rfl
@[simp] theorem txPush_outMair (bs : List Byte) (s : State) : (txPush bs s).outMair = s.outMair := rfl
@[simp] theorem txPush_outMmat (bs : List Byte) (s : State) : (txPush bs s).outMmat = s.outMmat := rfl
@[simp] theorem txPush_sched (bs : List Byte) (s : State) : (txPush bs s).sched = s.sched := rfl
@[simp] theorem txPush_hostLog (bs : List Byte) (s : State) : (txPush bs s).hostLog = s.hostLog := rfl
@[simp] theorem txPush_causeLog (bs : List Byte) (s : State) : (txPush bs s).causeLog = s.causeLog := rfl

/-! ### logCause -/

@[simp] theorem logCause_lstate (c : Cause) (s : State) : (logCause c s).lstate = s.lstate := rfl
@[simp] theorem logCause_cstate (c : Cause) (s : State) : (logCause c s).cstate = s.cstate := rfl
@[simp] theorem logCause_opc (c : Cause) (s : State) : (logCause c s).opc = s.opc := rfl
@[simp] theorem logCause_pay (c : Cause) (s : State) : (logCause c s).pay = s.pay := rfl
@[simp] theorem logCause_rc (c : Cause) (s : State) : (logCause c s).rc = s.rc := rfl
@[simp] theorem logCause_txframe (c : Cause) (s : State) : (logCause c s).txframe = s.txframe := rfl
@[simp] theorem logCause_cresult (c : Cause) (s : State) : (logCause c s).cresult = s.cresult := rfl
@[simp] theorem logCause_rstate (c : Cause) (s : State) : (logCause c s).rstate = s.rstate := rfl
@[simp] theorem logCause_ract (c : Cause) (s : State) : (logCause c s).ract = s.ract := rfl
@[simp] theorem logCause_rxbuf (c : Cause) (s : State) : (logCause c s).rxbuf = s.rxbuf := rfl
@[simp] theorem logCause_rxcnt (c : Cause) (s : State) : (logCause c s).rxcnt = s.rxcnt := rfl
@[simp] theorem logCause_stop (c : Cause) (s : State) : (logCause c s).stop = s.stop := rfl
@[simp] theorem logCause_ack (c : Cause) (s : State) : (logCause c s).ack = s.ack := rfl
@[simp] theorem logCause_topen (c : Cause) (s : State) : (logCause c s).topen = s.topen := rfl
@[simp] theorem logCause_rxq (c : Cause) (s : State) : (logCause c s).rxq = s.rxq := rfl
@[simp] theorem logCause_txs (c : Cause) (s : State) : (logCause c s).txs = s.txs := rfl
@[simp] theorem logCause_outDist (c : Cause) (s : State) : (logCause c s).outDist = s.outDist := rfl
@[simp] theorem logCause_outVel (c : Cause) (s : State) : (logCause c s).outVel = s.outVel := rfl
@[simp] theorem logCause_outMair (c : Cause) (s : State) : (logCause c s).outMair = s.outMair := rfl
@[simp] theorem logCause_outMmat (c : Cause) (s : State) : (logCause c s).outMmat = s.outMmat := rfl
@[simp] theorem logCause_sched (c : Cause) (s : State) : (logCause c s).sched = s.sched := rfl
@[simp] theorem logCause_hostLog (c : Cause) (s : State) : (logCause c s).hostLog = s.hostLog := rfl
@[simp] theorem logCause_causeLog (c : Cause) (s : State) : (logCause c s).causeLog = s.causeLog ++ [c] := rfl

/-! ### complete -/

@[simp] theorem complete_lstate (c : Completion) (s : State) : (complete c s).lstate = s.lstate := rfl
@[simp] theorem complete_cstate (c : Completion) (s : State) : (complete c s).cstate = s.cstate := rfl
@[simp] theorem complete_opc (c : Completion) (s : State) : (complete c s).opc = s.opc := rfl
@[simp] theorem complete_pay (c : Completion) (s : State) : (complete c s).pay = s.pay := rfl
@[simp] theorem complete_rc (c : Completion) (s : State) : (complete c s).rc = s.rc := rfl
@[simp] theorem complete_txframe (c : Completion) (s : State) : (complete c s).txframe = s.txframe := rfl
@[simp] theorem complete_cresult (c : Completion) (s : State) : (complete c s).cresult = s.cresult := rfl
@[simp] theorem complete_rstate (c : Completion) (s : State) : (complete c s).rstate = s.rstate := rfl
@[simp] theorem complete_ract (c : Completion) (s : State) : (complete c s).ract = s.ract := rfl
@[simp] theorem complete_rxbuf (c : Completion) (s : State) : (complete c s).rxbuf = s.rxbuf := rfl
@[simp] theorem complete_rxcnt (c : Completion) (s : State) : (complete c s).rxcnt = s.rxcnt := rfl
@[simp] theorem complete_stop (c : Completion) (s : State) : (complete c s).stop = s.stop := rfl
@[simp] theorem complete_ack (c : Completion) (s : State) : (complete c s).ack = s.ack := rfl
@[simp] theorem complete_topen (c : Completion) (s : State) : (complete c s).topen = s.topen := rfl
@[simp] theorem complete_rxq (c : Completion) (s : State) : (complete c s).rxq = s.rxq := rfl
@[simp] theorem complete_txs (c : Completion) (s : State) : (complete c s).txs = s.txs := rfl
@[simp] theorem complete_outDist (c : Completion) (s : State) : (complete c s).outDist = s.outDist := rfl
@[simp] theorem complete_outVel (c : Completion) (s : State) : (complete c s).outVel = s.outVel := rfl
@[simp] theorem complete_outMair (c : Completion) (s : State) : (complete c s).outMair = s.outMair := rfl
@[simp] theorem complete_outMmat (c : Completion) (s : State) : (complete c s).outMmat = s.outMmat := rfl
@[simp] theorem complete_sched (c : Completion) (s : State) : (complete c s).sched = s.sched := rfl
@[simp] theorem complete_hostLog (c : Completion) (s : State) : (complete c s).hostLog = s.hostLog ++ [c] := rfl
@[simp] theorem complete_causeLog (c : Completion) (s : State) : (complete c s).causeLog = s.causeLog := rfl

/-! ### beginWindow -/

@[simp] theorem beginWindow_lstate (s : State) : (beginWindow s).lstate = s.lstate := rfl
@[simp] theorem beginWindow_cstate (s : State) : (beginWindow s).cstate = s.cstate := rfl
@[simp] theorem beginWindow_opc (s : State) : (beginWindow s).opc = s.opc := rfl
@[simp] theorem beginWindow_pay (s : State) : (beginWindow s).pay = s.pay := rfl
@[simp] theorem beginWindow_rc (s : State) : (beginWindow s).rc = s.rc := rfl
@[simp] theorem beginWindow_txframe (s : State) : (beginWindow s).txframe = s.txframe := rfl
@[simp] theorem beginWindow_cresult (s : State) : (beginWindow s).cresult = s.cresult := rfl
@[simp] theorem beginWindow_rstate (s : State) : (beginWindow s).rstate = s.rstate := rfl
@[simp] theorem beginWindow_ract (s : State) : (beginWindow s).ract = true := rfl
@[simp] theorem beginWindow_rxbuf (s : State) : (beginWindow s).rxbuf = s.rxbuf := rfl
@[simp] theorem beginWindow_rxcnt (s : State) : (beginWindow s).rxcnt = 0 := rfl
@[simp] theorem beginWindow_stop (s : State) : (beginWindow s).stop = s.stop := rfl
@[simp] theorem beginWindow_ack (s : State) : (beginWindow s).ack = s.ack := rfl
@[simp] theorem beginWindow_topen (s : State) : (beginWindow s).topen = s.topen := rfl
@[simp] theorem beginWindow_rxq (s : State) : (beginWindow s).rxq = s.rxq := rfl
@[simp] theorem beginWindow_txs (s : State) : (beginWindow s).txs = s.txs := rfl
@[simp] theorem beginWindow_outDist (s : State) : (beginWindow s).outDist = s.outDist := rfl
@[simp] theorem beginWindow_outVel (s : State) : (beginWindow s).outVel = s.outVel := rfl
@[simp] theorem beginWindow_outMair (s : State) : (beginWindow s).outMair = s.outMair := rfl
@[simp] theorem beginWindow_outMmat (s : State) : (beginWindow s).outMmat = s.outMmat := rfl
@[simp] theorem beginWindow_sched (s : State) : (beginWindow s).sched = s.sched := rfl
@[simp] theorem beginWindow_hostLog (s : State) : (beginWindow s).hostLog = s.hostLog := rfl
@[simp] theorem beginWindow_causeLog (s : State) : (beginWindow s).causeLog = s.causeLog := rfl

/-! ### closeWindow -/

@[simp] theorem closeWindow_lstate (s : State) : (closeWindow s).lstate = s.lstate := rfl
@[simp] theorem closeWindow_cstate (s : State) : (closeWindow s).cstate = s.cstate := rfl
@[simp] theorem closeWindow_opc (s : State) : (closeWindow s).opc = s.opc := rfl
@[simp] theorem closeWindow_pay (s : State) : (closeWindow s).pay = s.pay := rfl
@[simp] theorem closeWindow_rc (s : State) : (closeWindow s).rc = s.rc := rfl
@[simp] theorem closeWindow_txframe (s : State) : (closeWindow s).txframe = s.txframe := rfl
@[simp] theorem closeWindow_cresult (s : State) : (closeWindow s).cresult = s.cresult := rfl
@[simp] theorem closeWindow_rstate (s : State) : (closeWindow s).rstate = s.rstate := rfl
@[simp] theorem closeWindow_ract (s : State) : (closeWindow s).ract = false := rfl
@[simp] theorem closeWindow_rxbuf (s : State) : (closeWindow s).rxbuf = s.rxbuf := rfl
@[simp] theorem closeWindow_rxcnt (s : State) : (closeWindow s).rxcnt = 0 := rfl
@[simp] theorem closeWindow_stop (s : State) : (closeWindow s).stop = s.stop := rfl
@[simp] theorem closeWindow_ack (s : State) : (closeWindow s).ack = s.ack := rfl
@[simp] theorem closeWindow_topen (s : State) : (closeWindow s).topen = s.topen := rfl
@[simp] theorem closeWindow_rxq (s : State) : (closeWindow s).rxq = s.rxq := rfl
@[simp] theorem closeWindow_txs (s : State) : (closeWindow s).txs = s.txs := rfl
@[simp] theorem closeWindow_outDist (s : State) : (closeWindow s).outDist = s.outDist := rfl
@[simp] theorem closeWindow_outVel (s : State) : (closeWindow s).outVel = s.outVel := rfl
@[simp] theorem closeWindow_outMair (s : State) : (closeWindow s).outMair = s.outMair := rfl
@[simp] theorem closeWindow_outMmat (s : State) : (closeWindow s).outMmat = s.outMmat := rfl
@[simp] theorem closeWindow_sched (s : State) : (closeWindow s).sched = s.sched := rfl
@[simp] theorem closeWindow_hostLog (s : State) : (closeWindow s).hostLog = s.hostLog := rfl
@[simp] theorem closeWindow_causeLog (s : State) : (closeWindow s).causeLog = s.causeLog := rfl

/-! ### enterDesync -/

@[simp] theorem enterDesync_lstate (c : Cause) (s : State) : (enterDesync c s).lstate = s.lstate := rfl
@[simp] theorem enterDesync_cstate (c : Cause) (s : State) : (enterDesync c s).cstate = s.cstate := rfl
@[simp] theorem enterDesync_opc (c : Cause) (s : State) : (enterDesync c s).opc = s.opc := rfl
@[simp] theorem enterDesync_pay (c : Cause) (s : State) : (enterDesync c s).pay = s.pay := rfl
@[simp] theorem enterDesync_rc (c : Cause) (s : State) : (enterDesync c s).rc = s.rc := rfl
@[simp] theorem enterDesync_txframe (c : Cause) (s : State) : (enterDesync c s).txframe = s.txframe := rfl
@[simp] theorem enterDesync_cresult (c : Cause) (s : State) : (enterDesync c s).cresult = s.cresult := rfl
@[simp] theorem enterDesync_rstate (c : Cause) (s : State) : (enterDesync c s).rstate = .desync := rfl
@[simp] theorem enterDesync_ract (c : Cause) (s : State) : (enterDesync c s).ract = s.ract := rfl
@[simp] theorem enterDesync_rxbuf (c : Cause) (s : State) : (enterDesync c s).rxbuf = s.rxbuf := rfl
@[simp] theorem enterDesync_rxcnt (c : Cause) (s : State) : (enterDesync c s).rxcnt = s.rxcnt := rfl
@[simp] theorem enterDesync_stop (c : Cause) (s : State) : (enterDesync c s).stop = s.stop := rfl
@[simp] theorem enterDesync_ack (c : Cause) (s : State) : (enterDesync c s).ack = s.ack := rfl
@[simp] theorem enterDesync_topen (c : Cause) (s : State) : (enterDesync c s).topen = s.topen := rfl
@[simp] theorem enterDesync_rxq (c : Cause) (s : State) : (enterDesync c s).rxq = s.rxq := rfl
@[simp] theorem enterDesync_txs (c : Cause) (s : State) : (enterDesync c s).txs = s.txs := rfl
@[simp] theorem enterDesync_outDist (c : Cause) (s : State) : (enterDesync c s).outDist = s.outDist := rfl
@[simp] theorem enterDesync_outVel (c : Cause) (s : State) : (enterDesync c s).outVel = s.outVel := rfl
@[simp] theorem enterDesync_outMair (c : Cause) (s : State) : (enterDesync c s).outMair = s.outMair := rfl
@[simp] theorem enterDesync_outMmat (c : Cause) (s : State) : (enterDesync c s).outMmat = s.outMmat := rfl
@[simp] theorem enterDesync_sched (c : Cause) (s : State) : (enterDesync c s).sched = s.sched := rfl
@[simp] theorem enterDesync_hostLog (c : Cause) (s : State) : (enterDesync c s).hostLog = s.hostLog := rfl
@[simp] theorem enterDesync_causeLog (c : Cause) (s : State) : (enterDesync c s).causeLog = s.causeLog ++ [c] := rfl

/-! ### returnFromDesync -/

@[simp] theorem returnFromDesync_lstate (s : State) : (returnFromDesync s).lstate = s.lstate := rfl
@[simp] theorem returnFromDesync_cstate (s : State) : (returnFromDesync s).cstate = s.cstate := rfl
@[simp] theorem returnFromDesync_opc (s : State) : (returnFromDesync s).opc = s.opc := rfl
@[simp] theorem returnFromDesync_pay (s : State) : (returnFromDesync s).pay = s.pay := rfl
@[simp] theorem returnFromDesync_rc (s : State) : (returnFromDesync s).rc = s.rc := rfl
@[simp] theorem returnFromDesync_txframe (s : State) : (returnFromDesync s).txframe = s.txframe := rfl
@[simp] theorem returnFromDesync_cresult (s : State) : (returnFromDesync s).cresult = s.cresult := rfl
@[simp] theorem returnFromDesync_rstate (s : State) : (returnFromDesync s).rstate = .run := rfl
@[simp] theorem returnFromDesync_ract (s : State) : (returnFromDesync s).ract = s.ract := rfl
@[simp] theorem returnFromDesync_rxbuf (s : State) : (returnFromDesync s).rxbuf = s.rxbuf := rfl
@[simp] theorem returnFromDesync_rxcnt (s : State) : (returnFromDesync s).rxcnt = s.rxcnt := rfl
@[simp] theorem returnFromDesync_stop (s : State) : (returnFromDesync s).stop = s.stop := rfl
@[simp] theorem returnFromDesync_ack (s : State) : (returnFromDesync s).ack = s.ack := rfl
@[simp] theorem returnFromDesync_topen (s : State) : (returnFromDesync s).topen = s.topen := rfl
@[simp] theorem returnFromDesync_rxq (s : State) : (returnFromDesync s).rxq = [] := rfl
@[simp] theorem returnFromDesync_txs (s : State) : (returnFromDesync s).txs = s.txs := rfl
@[simp] theorem returnFromDesync_outDist (s : State) : (returnFromDesync s).outDist = s.outDist := rfl
@[simp] theorem returnFromDesync_outVel (s : State) : (returnFromDesync s).outVel = s.outVel := rfl
@[simp] theorem returnFromDesync_outMair (s : State) : (returnFromDesync s).outMair = s.outMair := rfl
@[simp] theorem returnFromDesync_outMmat (s : State) : (returnFromDesync s).outMmat = s.outMmat := rfl
@[simp] theorem returnFromDesync_sched (s : State) : (returnFromDesync s).sched = s.sched := rfl
@[simp] theorem returnFromDesync_hostLog (s : State) : (returnFromDesync s).hostLog = s.hostLog := rfl
@[simp] theorem returnFromDesync_causeLog (s : State) : (returnFromDesync s).causeLog = s.causeLog := rfl

/-! ### finishCommand -/

@[simp] theorem finishCommand_lstate (r : CmdOutcome) (s : State) : (finishCommand r s).lstate = s.lstate := rfl
@[simp] theorem finishCommand_cstate (r : CmdOutcome) (s : State) : (finishCommand r s).cstate = .idle := rfl
@[simp] theorem finishCommand_opc (r : CmdOutcome) (s : State) : (finishCommand r s).opc = s.opc := rfl
@[simp] theorem finishCommand_pay (r : CmdOutcome) (s : State) : (finishCommand r s).pay = s.pay := rfl
@[simp] theorem finishCommand_rc (r : CmdOutcome) (s : State) : (finishCommand r s).rc = s.rc := rfl
@[simp] theorem finishCommand_txframe (r : CmdOutcome) (s : State) : (finishCommand r s).txframe = s.txframe := rfl
@[simp] theorem finishCommand_cresult (r : CmdOutcome) (s : State) : (finishCommand r s).cresult = r.result := rfl
@[simp] theorem finishCommand_rstate (r : CmdOutcome) (s : State) : (finishCommand r s).rstate = s.rstate := rfl
@[simp] theorem finishCommand_ract (r : CmdOutcome) (s : State) : (finishCommand r s).ract = s.ract := rfl
@[simp] theorem finishCommand_rxbuf (r : CmdOutcome) (s : State) : (finishCommand r s).rxbuf = s.rxbuf := rfl
@[simp] theorem finishCommand_rxcnt (r : CmdOutcome) (s : State) : (finishCommand r s).rxcnt = s.rxcnt := rfl
@[simp] theorem finishCommand_stop (r : CmdOutcome) (s : State) : (finishCommand r s).stop = s.stop := rfl
@[simp] theorem finishCommand_ack (r : CmdOutcome) (s : State) : (finishCommand r s).ack = s.ack := rfl
@[simp] theorem finishCommand_topen (r : CmdOutcome) (s : State) : (finishCommand r s).topen = s.topen := rfl
@[simp] theorem finishCommand_rxq (r : CmdOutcome) (s : State) : (finishCommand r s).rxq = s.rxq := rfl
@[simp] theorem finishCommand_txs (r : CmdOutcome) (s : State) : (finishCommand r s).txs = s.txs := rfl
@[simp] theorem finishCommand_outDist (r : CmdOutcome) (s : State) : (finishCommand r s).outDist = s.outDist := rfl
@[simp] theorem finishCommand_outVel (r : CmdOutcome) (s : State) : (finishCommand r s).outVel = s.outVel := rfl
@[simp] theorem finishCommand_outMair (r : CmdOutcome) (s : State) : (finishCommand r s).outMair = s.outMair := rfl
@[simp] theorem finishCommand_outMmat (r : CmdOutcome) (s : State) : (finishCommand r s).outMmat = s.outMmat := rfl
@[simp] theorem finishCommand_sched (r : CmdOutcome) (s : State) : (finishCommand r s).sched = s.sched := rfl
@[simp] theorem finishCommand_hostLog (r : CmdOutcome) (s : State) : (finishCommand r s).hostLog = s.hostLog ++ [.cmdDone r] := rfl
@[simp] theorem finishCommand_causeLog (r : CmdOutcome) (s : State) : (finishCommand r s).causeLog = s.causeLog := rfl

/-! ### latchCommand -/

@[simp] theorem latchCommand_lstate (o : Opcode) (p : Payload4) (n : RetryCount) (s : State) : (latchCommand o p n s).lstate = s.lstate := rfl
@[simp] theorem latchCommand_cstate (o : Opcode) (p : Payload4) (n : RetryCount) (s : State) : (latchCommand o p n s).cstate = .clear := rfl
@[simp] theorem latchCommand_opc (o : Opcode) (p : Payload4) (n : RetryCount) (s : State) : (latchCommand o p n s).opc = .holding o := rfl
@[simp] theorem latchCommand_pay (o : Opcode) (p : Payload4) (n : RetryCount) (s : State) : (latchCommand o p n s).pay = .holding p := rfl
@[simp] theorem latchCommand_rc (o : Opcode) (p : Payload4) (n : RetryCount) (s : State) : (latchCommand o p n s).rc = .holding n := rfl
@[simp] theorem latchCommand_txframe (o : Opcode) (p : Payload4) (n : RetryCount) (s : State) : (latchCommand o p n s).txframe = .holding (encodeCommand o p) := rfl
@[simp] theorem latchCommand_cresult (o : Opcode) (p : Payload4) (n : RetryCount) (s : State) : (latchCommand o p n s).cresult = s.cresult := rfl
@[simp] theorem latchCommand_rstate (o : Opcode) (p : Payload4) (n : RetryCount) (s : State) : (latchCommand o p n s).rstate = s.rstate := rfl
@[simp] theorem latchCommand_ract (o : Opcode) (p : Payload4) (n : RetryCount) (s : State) : (latchCommand o p n s).ract = s.ract := rfl
@[simp] theorem latchCommand_rxbuf (o : Opcode) (p : Payload4) (n : RetryCount) (s : State) : (latchCommand o p n s).rxbuf = s.rxbuf := rfl
@[simp] theorem latchCommand_rxcnt (o : Opcode) (p : Payload4) (n : RetryCount) (s : State) : (latchCommand o p n s).rxcnt = s.rxcnt := rfl
@[simp] theorem latchCommand_stop (o : Opcode) (p : Payload4) (n : RetryCount) (s : State) : (latchCommand o p n s).stop = s.stop := rfl
@[simp] theorem latchCommand_ack (o : Opcode) (p : Payload4) (n : RetryCount) (s : State) : (latchCommand o p n s).ack = s.ack := rfl
@[simp] theorem latchCommand_topen (o : Opcode) (p : Payload4) (n : RetryCount) (s : State) : (latchCommand o p n s).topen = s.topen := rfl
@[simp] theorem latchCommand_rxq (o : Opcode) (p : Payload4) (n : RetryCount) (s : State) : (latchCommand o p n s).rxq = s.rxq := rfl
@[simp] theorem latchCommand_txs (o : Opcode) (p : Payload4) (n : RetryCount) (s : State) : (latchCommand o p n s).txs = s.txs := rfl
@[simp] theorem latchCommand_outDist (o : Opcode) (p : Payload4) (n : RetryCount) (s : State) : (latchCommand o p n s).outDist = s.outDist := rfl
@[simp] theorem latchCommand_outVel (o : Opcode) (p : Payload4) (n : RetryCount) (s : State) : (latchCommand o p n s).outVel = s.outVel := rfl
@[simp] theorem latchCommand_outMair (o : Opcode) (p : Payload4) (n : RetryCount) (s : State) : (latchCommand o p n s).outMair = s.outMair := rfl
@[simp] theorem latchCommand_outMmat (o : Opcode) (p : Payload4) (n : RetryCount) (s : State) : (latchCommand o p n s).outMmat = s.outMmat := rfl
@[simp] theorem latchCommand_sched (o : Opcode) (p : Payload4) (n : RetryCount) (s : State) : (latchCommand o p n s).sched = s.sched := rfl
@[simp] theorem latchCommand_hostLog (o : Opcode) (p : Payload4) (n : RetryCount) (s : State) : (latchCommand o p n s).hostLog = s.hostLog := rfl
@[simp] theorem latchCommand_causeLog (o : Opcode) (p : Payload4) (n : RetryCount) (s : State) : (latchCommand o p n s).causeLog = s.causeLog := rfl

/-! ### openedState -/

@[simp] theorem openedState_lstate (q : List Byte) (s : State) : (openedState q s).lstate = .opened := rfl
@[simp] theorem openedState_cstate (q : List Byte) (s : State) : (openedState q s).cstate = .idle := rfl
@[simp] theorem openedState_opc (q : List Byte) (s : State) : (openedState q s).opc = opcAtOpen := rfl
@[simp] theorem openedState_pay (q : List Byte) (s : State) : (openedState q s).pay = payAtOpen := rfl
@[simp] theorem openedState_rc (q : List Byte) (s : State) : (openedState q s).rc = rcAtOpen := rfl
@[simp] theorem openedState_txframe (q : List Byte) (s : State) : (openedState q s).txframe = txframeAtOpen := rfl
@[simp] theorem openedState_cresult (q : List Byte) (s : State) : (openedState q s).cresult = .none := rfl
@[simp] theorem openedState_rstate (q : List Byte) (s : State) : (openedState q s).rstate = .run := rfl
@[simp] theorem openedState_ract (q : List Byte) (s : State) : (openedState q s).ract = false := rfl
@[simp] theorem openedState_rxbuf (q : List Byte) (s : State) : (openedState q s).rxbuf = emptyWindow := rfl
@[simp] theorem openedState_rxcnt (q : List Byte) (s : State) : (openedState q s).rxcnt = 0 := rfl
@[simp] theorem openedState_stop (q : List Byte) (s : State) : (openedState q s).stop = false := rfl
@[simp] theorem openedState_ack (q : List Byte) (s : State) : (openedState q s).ack = false := rfl
@[simp] theorem openedState_topen (q : List Byte) (s : State) : (openedState q s).topen = true := rfl
@[simp] theorem openedState_rxq (q : List Byte) (s : State) : (openedState q s).rxq = q := rfl
@[simp] theorem openedState_txs (q : List Byte) (s : State) : (openedState q s).txs = s.txs := rfl
@[simp] theorem openedState_outDist (q : List Byte) (s : State) : (openedState q s).outDist = [] := rfl
@[simp] theorem openedState_outVel (q : List Byte) (s : State) : (openedState q s).outVel = [] := rfl
@[simp] theorem openedState_outMair (q : List Byte) (s : State) : (openedState q s).outMair = [] := rfl
@[simp] theorem openedState_outMmat (q : List Byte) (s : State) : (openedState q s).outMmat = [] := rfl
@[simp] theorem openedState_sched (q : List Byte) (s : State) : (openedState q s).sched = s.sched := rfl
@[simp] theorem openedState_hostLog (q : List Byte) (s : State) : (openedState q s).hostLog = s.hostLog := rfl
@[simp] theorem openedState_causeLog (q : List Byte) (s : State) : (openedState q s).causeLog = s.causeLog := rfl

/-! ### collectByte -/

@[simp] theorem collectByte_lstate (b : Byte) (s : State) (h : s.rxcnt.val < 16) :
    (collectByte b s h).lstate = s.lstate := rfl
@[simp] theorem collectByte_cstate (b : Byte) (s : State) (h : s.rxcnt.val < 16) :
    (collectByte b s h).cstate = s.cstate := rfl
@[simp] theorem collectByte_opc (b : Byte) (s : State) (h : s.rxcnt.val < 16) :
    (collectByte b s h).opc = s.opc := rfl
@[simp] theorem collectByte_pay (b : Byte) (s : State) (h : s.rxcnt.val < 16) :
    (collectByte b s h).pay = s.pay := rfl
@[simp] theorem collectByte_rc (b : Byte) (s : State) (h : s.rxcnt.val < 16) :
    (collectByte b s h).rc = s.rc := rfl
@[simp] theorem collectByte_txframe (b : Byte) (s : State) (h : s.rxcnt.val < 16) :
    (collectByte b s h).txframe = s.txframe := rfl
@[simp] theorem collectByte_cresult (b : Byte) (s : State) (h : s.rxcnt.val < 16) :
    (collectByte b s h).cresult = s.cresult := rfl
@[simp] theorem collectByte_rstate (b : Byte) (s : State) (h : s.rxcnt.val < 16) :
    (collectByte b s h).rstate = s.rstate := rfl
@[simp] theorem collectByte_ract (b : Byte) (s : State) (h : s.rxcnt.val < 16) :
    (collectByte b s h).ract = s.ract := rfl
@[simp] theorem collectByte_rxbuf (b : Byte) (s : State) (h : s.rxcnt.val < 16) :
    (collectByte b s h).rxbuf = s.rxbuf.set s.rxcnt.val (.holding b) h := rfl
@[simp] theorem collectByte_rxcnt (b : Byte) (s : State) (h : s.rxcnt.val < 16) :
    (collectByte b s h).rxcnt = ⟨s.rxcnt.val + 1, Nat.succ_lt_succ h⟩ := rfl
@[simp] theorem collectByte_stop (b : Byte) (s : State) (h : s.rxcnt.val < 16) :
    (collectByte b s h).stop = s.stop := rfl
@[simp] theorem collectByte_ack (b : Byte) (s : State) (h : s.rxcnt.val < 16) :
    (collectByte b s h).ack = s.ack := rfl
@[simp] theorem collectByte_topen (b : Byte) (s : State) (h : s.rxcnt.val < 16) :
    (collectByte b s h).topen = s.topen := rfl
@[simp] theorem collectByte_rxq (b : Byte) (s : State) (h : s.rxcnt.val < 16) :
    (collectByte b s h).rxq = s.rxq := rfl
@[simp] theorem collectByte_txs (b : Byte) (s : State) (h : s.rxcnt.val < 16) :
    (collectByte b s h).txs = s.txs := rfl
@[simp] theorem collectByte_outDist (b : Byte) (s : State) (h : s.rxcnt.val < 16) :
    (collectByte b s h).outDist = s.outDist := rfl
@[simp] theorem collectByte_outVel (b : Byte) (s : State) (h : s.rxcnt.val < 16) :
    (collectByte b s h).outVel = s.outVel := rfl
@[simp] theorem collectByte_outMair (b : Byte) (s : State) (h : s.rxcnt.val < 16) :
    (collectByte b s h).outMair = s.outMair := rfl
@[simp] theorem collectByte_outMmat (b : Byte) (s : State) (h : s.rxcnt.val < 16) :
    (collectByte b s h).outMmat = s.outMmat := rfl
@[simp] theorem collectByte_sched (b : Byte) (s : State) (h : s.rxcnt.val < 16) :
    (collectByte b s h).sched = s.sched := rfl
@[simp] theorem collectByte_hostLog (b : Byte) (s : State) (h : s.rxcnt.val < 16) :
    (collectByte b s h).hostLog = s.hostLog := rfl
@[simp] theorem collectByte_causeLog (b : Byte) (s : State) (h : s.rxcnt.val < 16) :
    (collectByte b s h).causeLog = s.causeLog := rfl

/-! ### emit -/

@[simp] theorem emit_lstate (ch : Channel) (p : Payload12) (s : State) :
    (emit ch p s).lstate = s.lstate := by cases ch <;> rfl
@[simp] theorem emit_cstate (ch : Channel) (p : Payload12) (s : State) :
    (emit ch p s).cstate = s.cstate := by cases ch <;> rfl
@[simp] theorem emit_opc (ch : Channel) (p : Payload12) (s : State) :
    (emit ch p s).opc = s.opc := by cases ch <;> rfl
@[simp] theorem emit_pay (ch : Channel) (p : Payload12) (s : State) :
    (emit ch p s).pay = s.pay := by cases ch <;> rfl
@[simp] theorem emit_rc (ch : Channel) (p : Payload12) (s : State) :
    (emit ch p s).rc = s.rc := by cases ch <;> rfl
@[simp] theorem emit_txframe (ch : Channel) (p : Payload12) (s : State) :
    (emit ch p s).txframe = s.txframe := by cases ch <;> rfl
@[simp] theorem emit_cresult (ch : Channel) (p : Payload12) (s : State) :
    (emit ch p s).cresult = s.cresult := by cases ch <;> rfl
@[simp] theorem emit_rstate (ch : Channel) (p : Payload12) (s : State) :
    (emit ch p s).rstate = s.rstate := by cases ch <;> rfl
@[simp] theorem emit_ract (ch : Channel) (p : Payload12) (s : State) :
    (emit ch p s).ract = s.ract := by cases ch <;> rfl
@[simp] theorem emit_rxbuf (ch : Channel) (p : Payload12) (s : State) :
    (emit ch p s).rxbuf = s.rxbuf := by cases ch <;> rfl
@[simp] theorem emit_rxcnt (ch : Channel) (p : Payload12) (s : State) :
    (emit ch p s).rxcnt = s.rxcnt := by cases ch <;> rfl
@[simp] theorem emit_stop (ch : Channel) (p : Payload12) (s : State) :
    (emit ch p s).stop = s.stop := by cases ch <;> rfl
@[simp] theorem emit_ack (ch : Channel) (p : Payload12) (s : State) :
    (emit ch p s).ack = s.ack := by cases ch <;> rfl
@[simp] theorem emit_topen (ch : Channel) (p : Payload12) (s : State) :
    (emit ch p s).topen = s.topen := by cases ch <;> rfl
@[simp] theorem emit_rxq (ch : Channel) (p : Payload12) (s : State) :
    (emit ch p s).rxq = s.rxq := by cases ch <;> rfl
@[simp] theorem emit_txs (ch : Channel) (p : Payload12) (s : State) :
    (emit ch p s).txs = s.txs := by cases ch <;> rfl
@[simp] theorem emit_outDist (ch : Channel) (p : Payload12) (s : State) :
    (emit ch p s).outDist = if ch = .dist then s.outDist ++ [p] else s.outDist := by cases ch <;> rfl
@[simp] theorem emit_outVel (ch : Channel) (p : Payload12) (s : State) :
    (emit ch p s).outVel = if ch = .vel then s.outVel ++ [p] else s.outVel := by cases ch <;> rfl
@[simp] theorem emit_outMair (ch : Channel) (p : Payload12) (s : State) :
    (emit ch p s).outMair = if ch = .meteoAir then s.outMair ++ [p] else s.outMair := by cases ch <;> rfl
@[simp] theorem emit_outMmat (ch : Channel) (p : Payload12) (s : State) :
    (emit ch p s).outMmat = if ch = .meteoMat then s.outMmat ++ [p] else s.outMmat := by cases ch <;> rfl
@[simp] theorem emit_sched (ch : Channel) (p : Payload12) (s : State) :
    (emit ch p s).sched = s.sched := by cases ch <;> rfl
@[simp] theorem emit_hostLog (ch : Channel) (p : Payload12) (s : State) :
    (emit ch p s).hostLog = s.hostLog := by cases ch <;> rfl
@[simp] theorem emit_causeLog (ch : Channel) (p : Payload12) (s : State) :
    (emit ch p s).causeLog = s.causeLog := by cases ch <;> rfl

end Sys2Proof.Machine
end

