-- ==== Sys2Proof/Laws/Ops.lean ====
section
/-! SUPPORT. For each shared operation and each agent's turn, one lemma that says once everything it
can do. -/

namespace Sys2Proof.Machine

@[simp] theorem readReg_holding {α : Type} (r : Register) (v : α) :
    readReg r (.holding v) = .ok v := rfl

@[simp] theorem readReg_noValue {α : Type} (r : Register) (v : α) :
    readReg r (.noValue v) = .error (.noValue r) := rfl

/-- A read answers exactly where the register holds a value (R42). -/
theorem readReg_ok {α : Type} {r : Register} {x : Reg α} {v : α} :
    readReg r x = .ok v ↔ x = .holding v := by
  obtain ⟨b, h⟩ := x
  cases h <;> simp [readReg, Reg.holding]

/-- A row of registers reads back exactly where each holds a value (R42). -/
theorem readRegs_ok {α : Type} {r : Register} {l : List (Reg α)} {vs : List α} :
    readRegs r l = .ok vs ↔ l = vs.map .holding := by
  induction l generalizing vs with
  | nil => cases vs <;> simp [readRegs]
  | cons x xs ih =>
    have split : readRegs r (x :: xs) = .ok vs ↔
        ∃ v us, readReg r x = .ok v ∧ readRegs r xs = .ok us ∧ v :: us = vs := by
      rw [readRegs]
      cases readReg r x <;> cases readRegs r xs <;> simp
    rw [split]
    simp only [readReg_ok, ih]
    cases vs with
    | nil => simp
    | cons v us => simp [and_comm, and_assoc]

@[simp] theorem andThen_next (f : State → State) (s : State) : andThen f (.next s) = .next (f s) := rfl

theorem andThen_eq_next {f : State → State} {r : Result} {t : State} :
    andThen f r = .next t ↔ ∃ s, r = .next s ∧ t = f s := by
  cases r <;> simp [andThen, eq_comm]

/-- The request step answers a next state exactly in OPEN and IDLE, and then latches (R231). -/
theorem requestCommand_eq_next {o : Opcode} {p : Payload4} {n : RetryCount} {s t : State} :
    requestCommand o p n s = .next t ↔
      s.lstate = .opened ∧ s.cstate = .idle ∧ t = latchCommand o p n s := by
  unfold requestCommand
  split
  · simp_all
  · split
    · simp_all
    · simp_all [eq_comm]

/-- A command row's action is the request step with its opcode. -/
theorem exec_request (c : Command) (p : Payload4) (n : RetryCount) (s : State) :
    exec (c.request p n) s = requestCommand c.opcode p n s := by
  cases c <;> rfl

/-- An acknowledgment row's action. -/
theorem exec_ackFrame (c : Command) (st : Byte) (p : Payload12) (s : State) :
    exec (c.ackFrame st p) s = .next (setAck s) := by
  cases c <;> rfl

/-- A host request is the request step, whatever its opcode (R78, R231). -/
theorem hostRequest_eq (o : Opcode) (p : Payload4) (n : RetryCount) (s : State) :
    hostRequest o p n s = requestCommand o p n s := by
  unfold hostRequest
  rcases decode_request_cases o p n with ⟨c, rfl, h⟩ | ⟨-, h⟩ <;> rw [h]
  exact exec_request c p n s

/-- A window's dispatch always has a next state: a record, an acknowledgment or a desync (R180). -/
theorem dispatchWindow_cases (f : List Byte) (s : State) :
    (∃ ch p, dispatchWindow f s = .next (emit ch p s)) ∨
    dispatchWindow f s = .next (setAck s) ∨
    (∃ c, (c = .desyncOpcode ∨ c = .desyncCrc) ∧ dispatchWindow f s = .next (enterDesync c s)) := by
  unfold dispatchWindow
  cases h : decode (.window f) with
  | ok i =>
    obtain ⟨st, p, ⟨-, rfl⟩ | ⟨-, rfl⟩ | ⟨-, rfl⟩ | ⟨c, -, rfl⟩⟩ := decodeWindow_ok h
    · exact .inl ⟨_, _, rfl⟩
    · exact .inl ⟨_, _, rfl⟩
    · exact .inl ⟨_, _, rfl⟩
    · exact .inr (.inl (exec_ackFrame c st p s))
  | error r =>
    cases r with
    | unknownOpcode o => exact .inr (.inr ⟨_, .inl rfl, rfl⟩)
    | unlistedCommand o => exact .inr (.inr ⟨_, .inr rfl, rfl⟩)
    | wrongLength => exact .inr (.inr ⟨_, .inr rfl, rfl⟩)
    | badCrc => exact .inr (.inr ⟨_, .inr rfl, rfl⟩)

/-- One retry taken off a budget that is not 0; RETRY_W is at least 1, so 1 is a count (R9, R239). -/
theorem retryCount_sub_one {n : RetryCount} (h : n ≠ 0) : (n - 1).toNat + 1 = n.toNat := by
  have h0 : n.toNat ≠ 0 := fun e => h (BitVec.eq_of_toNat_eq (by simpa using e))
  have h1 : (1 : RetryCount).toNat = 1 := by simp [Nat.mod_eq_of_lt, Config.retryWidth]
  rw [BitVec.toNat_sub_of_le (by rw [BitVec.le_def]; omega)]
  omega

/-- The timeout step with a retry left (R236, R269). -/
theorem writerTimeout_of_ne_zero {s : State} {n : RetryCount} (h : s.rc = .holding n) (h0 : n ≠ 0) :
    writerTimeout s =
      .next { logCause .ackWaitTimeout s with rc := .holding (n - 1), cstate := .clear } := by
  simp only [writerTimeout, readRc, h, readReg_holding, if_neg h0]

/-- The timeout step with no retry left (R236, R265). -/
theorem writerTimeout_of_zero {s : State} (h : s.rc = .holding 0) :
    writerTimeout s = .next (finishCommand .exhausted (logCause .connectionExhausted s)) := by
  simp only [writerTimeout, readRc, h, readReg_holding, if_true]

/-- WRITER's turn: everything it can do (R232 to R236). -/
theorem writerTurn_eq_next {s t : State} (h : writerTurn s = .next t) :
    ((s.lstate = .closed ∨ s.cstate = .idle) ∧ t = s) ∨
    (s.lstate ≠ .closed ∧
      ((s.cstate = .clear ∧ t = { clearAck s with cstate := .send }) ∨
       (s.cstate = .send ∧ ∃ f, s.txframe = .holding f ∧ t = { txPush f.toList s with cstate := .wait }) ∨
       (s.cstate = .wait ∧ s.ack = true ∧ t = finishCommand .ok s) ∨
       (s.cstate = .wait ∧ s.ack = false ∧ ∃ n, s.rc = .holding n ∧ n ≠ 0 ∧
          t = { logCause .ackWaitTimeout s with rc := .holding (n - 1), cstate := .clear }) ∨
       (s.cstate = .wait ∧ s.ack = false ∧ s.rc = .holding 0 ∧
          t = finishCommand .exhausted (logCause .connectionExhausted s)))) := by
  unfold writerTurn at h
  split at h
  · cases h; exact .inl ⟨.inl ‹_›, rfl⟩
  · rename_i hl
    cases hc : s.cstate <;> simp only [hc] at h
    · cases h; exact .inl ⟨.inr rfl, rfl⟩
    · cases h; exact .inr ⟨hl, .inl ⟨rfl, rfl⟩⟩
    · refine .inr ⟨hl, .inr (.inl ⟨rfl, ?_⟩)⟩
      unfold writerSend at h
      split at h
      · rename_i f hf
        cases h
        exact ⟨f, readReg_ok.mp hf, rfl⟩
      · cases h
    · refine .inr ⟨hl, .inr (.inr ?_)⟩
      cases ha : s.ack <;> simp only [ha] at h
      · refine .inr ?_
        simp only [Bool.false_eq_true, if_false] at h
        unfold writerTimeout at h
        split at h
        · rename_i n hn
          split at h
          · rename_i h0
            cases h
            exact .inr ⟨rfl, rfl, h0 ▸ readReg_ok.mp hn, rfl⟩
          · rename_i h0
            cases h
            exact .inl ⟨rfl, rfl, n, readReg_ok.mp hn, h0, rfl⟩
        · cases h
      · simp only [if_true] at h
        cases h
        exact .inl ⟨rfl, rfl, rfl⟩

/-- READER's turn: everything it can do (R171 to R174, R183). -/
theorem readerTurn_eq_next {s t : State} (h : readerTurn s = .next t) :
    ((s.lstate = .closed ∨ s.rstate = .stopped) ∧ t = s) ∨
    (s.lstate ≠ .closed ∧
      ((s.rstate = .desync ∧ t = returnFromDesync s) ∨
       (s.rstate = .run ∧ s.ract = false ∧ s.stop = true ∧ t = { s with rstate := .stopped }) ∨
       (s.rstate = .run ∧ s.ract = false ∧ s.stop = false ∧ t = beginWindow s) ∨
       (s.rstate = .run ∧ s.ract = true ∧ s.rxcnt.val < 16 ∧ s.rxq = [] ∧
          t = closeWindow (logCause .shortRead s)) ∨
       (s.rstate = .run ∧ s.ract = true ∧ ∃ (hc : s.rxcnt.val < 16) (b : Byte) (q : List Byte),
          s.rxq = b :: q ∧ t = collectByte b { s with rxq := q } hc) ∨
       (s.rstate = .run ∧ s.ract = true ∧ s.rxcnt.val = 16 ∧ ∃ (f : List Byte) (u : State),
          s.rxbuf.toList = f.map .holding ∧ dispatchWindow f s = .next u ∧ t = closeWindow u))) := by
  unfold readerTurn at h
  split at h
  · cases h; exact .inl ⟨.inl ‹_›, rfl⟩
  · rename_i hl
    cases hr : s.rstate <;> simp only [hr] at h
    · refine .inr ⟨hl, .inr ?_⟩
      cases ha : s.ract <;> simp only [ha, Bool.false_eq_true, if_false, if_true] at h
      · unfold readerBoundary at h
        cases hs : s.stop <;> simp only [hs, Bool.false_eq_true, if_false, if_true] at h <;> cases h
        · exact .inr (.inl ⟨rfl, rfl, rfl, rfl⟩)
        · exact .inl ⟨rfl, rfl, rfl, by simp [ha]⟩
      · split at h
        · rename_i hc
          unfold readerCollect at h
          split at h
          · rename_i b q hq
            cases h
            exact .inr (.inr (.inr (.inl ⟨rfl, rfl, hc, b, q, hq, by simp [hr, ha]⟩)))
          · rename_i hq
            cases h
            exact .inr (.inr (.inl ⟨rfl, rfl, hc, hq, rfl⟩))
        · rename_i hc
          refine .inr (.inr (.inr (.inr ⟨rfl, rfl, by omega, ?_⟩)))
          unfold readerParse at h
          split at h
          · rename_i f hf
            obtain ⟨u, hu, rfl⟩ := andThen_eq_next.mp h
            exact ⟨f, u, readRegs_ok.mp hf, hu, rfl⟩
          · cases h
    · cases h; exact .inr ⟨hl, .inl ⟨rfl, rfl⟩⟩
    · cases h; exact .inl ⟨.inr rfl, rfl⟩

/-- The open step answers a next state exactly in CLOSED (R290). -/
theorem openBlock_eq_next {q : List Byte} {s t : State} :
    openBlock q s = .next t ↔ s.lstate = .closed ∧ t = openedState q s := by
  unfold openBlock; split <;> simp_all [eq_comm]

/-- The close step answers a next state exactly in OPEN and IDLE (R245). -/
theorem closeBlock_eq_next {s t : State} :
    closeBlock s = .next t ↔
      s.lstate = .opened ∧ s.cstate = .idle ∧ t = { setStop s with lstate := .closing } := by
  unfold closeBlock
  split
  · simp_all
  · split
    · simp_all
    · simp_all [eq_comm]

/-- Close completion: everything it can do (R246). -/
theorem completeClose_eq_next {st : CloseStatus} {s t : State} (h : completeClose st s = .next t) :
    (s.lstate = .closing ∧ s.rstate = .stopped ∧ t = { complete (.closeDone st) s with
        topen := false, lstate := .closed, causeLog := s.causeLog ++ closeCauses st }) ∨
    (¬ (s.lstate = .closing ∧ s.rstate = .stopped) ∧ t = s) := by
  unfold completeClose at h
  split at h
  · rename_i hc; cases h; exact .inl ⟨hc.1, hc.2, rfl⟩
  · rename_i hc; cases h; exact .inr ⟨hc, rfl⟩

/-- DEVICE's turn: everything it can do (R21). -/
theorem deviceTurn_eq_next {b : Byte} {s t : State} (h : deviceTurn b s = .next t) :
    (s.topen = true ∧ t = rxAppend b s) ∨ (s.topen = false ∧ t = s) := by
  unfold deviceTurn at h
  cases ht : s.topen <;> simp only [ht, Bool.false_eq_true, if_false, if_true] at h <;> cases h
  · exact .inr ⟨rfl, rfl⟩
  · exact .inl ⟨rfl, rfl⟩

/-- A step with a turn given is that turn, on the state without it. -/
theorem step_of_sched {s : State} {e : Event} {rest : List Event} (h : s.sched = e :: rest) :
    step s = turn e { s with sched := rest } := by
  simp [step, nextTurn, h]

/-- A step with no turn given leaves the state as it is (log 1). -/
theorem step_of_nil {s : State} (h : s.sched = []) : step s = .next s := by
  simp [step, nextTurn, h]

end Sys2Proof.Machine
end

