-- ==== Sys2Proof/Laws/Moves.lean ====
section
/-! SUPPORT. Every move the machine can make, one constructor per rule, and the lemma that a turn which
answers a next state made one of them. A claim over all steps is then one case per move. -/

namespace Sys2Proof.Machine

/-- `Moves e s t`: agent `e`'s turn takes `s` to `t`. -/
inductive Moves : Event → State → State → Prop
  /-- R290. -/
  | opens {s : State} (q : List Byte) (hl : s.lstate = .closed) :
      Moves (.openReq q) s (openedState q s)
  /-- R245. -/
  | closes {s : State} (hl : s.lstate = .opened) (hc : s.cstate = .idle) :
      Moves .closeReq s { setStop s with lstate := .closing }
  /-- R246. -/
  | closeEnds {s : State} (st : CloseStatus) (hl : s.lstate = .closing) (hr : s.rstate = .stopped) :
      Moves (.closeDone st) s { complete (.closeDone st) s with
        topen := false, lstate := .closed, causeLog := s.causeLog ++ closeCauses st }
  /-- R246 not enabled (log 2). -/
  | closePasses {s : State} (st : CloseStatus)
      (hn : ¬ (s.lstate = .closing ∧ s.rstate = .stopped)) : Moves (.closeDone st) s s
  /-- R231. -/
  | requests {s : State} (o : Opcode) (p : Payload4) (n : RetryCount) (hl : s.lstate = .opened)
      (hc : s.cstate = .idle) : Moves (.cmdReq o p n) s (latchCommand o p n s)
  /-- WRITER has no step (log 2). -/
  | writerPasses {s : State} (hn : s.lstate = .closed ∨ s.cstate = .idle) : Moves .writer s s
  /-- R232. -/
  | clears {s : State} (hl : s.lstate ≠ .closed) (hc : s.cstate = .clear) :
      Moves .writer s { clearAck s with cstate := .send }
  /-- R233. -/
  | sends {s : State} (f : Vector Byte 8) (hl : s.lstate ≠ .closed) (hc : s.cstate = .send)
      (hf : s.txframe = .holding f) : Moves .writer s { txPush f.toList s with cstate := .wait }
  /-- R235. -/
  | succeeds {s : State} (hl : s.lstate ≠ .closed) (hc : s.cstate = .wait) (ha : s.ack = true) :
      Moves .writer s (finishCommand .ok s)
  /-- R236, a retry left. -/
  | retries {s : State} (n : RetryCount) (hl : s.lstate ≠ .closed) (hc : s.cstate = .wait)
      (ha : s.ack = false) (hn : s.rc = .holding n) (h0 : n ≠ 0) :
      Moves .writer s { logCause .ackWaitTimeout s with rc := .holding (n - 1), cstate := .clear }
  /-- R236, no retry left. -/
  | exhausts {s : State} (hl : s.lstate ≠ .closed) (hc : s.cstate = .wait) (ha : s.ack = false)
      (hn : s.rc = .holding 0) :
      Moves .writer s (finishCommand .exhausted (logCause .connectionExhausted s))
  /-- READER has no step (log 2). -/
  | readerPasses {s : State} (hn : s.lstate = .closed ∨ s.rstate = .stopped) : Moves .reader s s
  /-- R183. -/
  | flushes {s : State} (hl : s.lstate ≠ .closed) (hr : s.rstate = .desync) :
      Moves .reader s (returnFromDesync s)
  /-- R171, STOP = 1. -/
  | stops {s : State} (hl : s.lstate ≠ .closed) (hr : s.rstate = .run) (ha : s.ract = false)
      (hs : s.stop = true) : Moves .reader s { s with rstate := .stopped }
  /-- R171, STOP = 0. -/
  | begins {s : State} (hl : s.lstate ≠ .closed) (hr : s.rstate = .run) (ha : s.ract = false)
      (hs : s.stop = false) : Moves .reader s (beginWindow s)
  /-- R173. -/
  | expires {s : State} (hl : s.lstate ≠ .closed) (hr : s.rstate = .run) (ha : s.ract = true)
      (hc : s.rxcnt.val < 16) (hq : s.rxq = []) :
      Moves .reader s (closeWindow (logCause .shortRead s))
  /-- R172. -/
  | collects {s : State} (b : Byte) (q : List Byte) (hl : s.lstate ≠ .closed) (hr : s.rstate = .run)
      (ha : s.ract = true) (hc : s.rxcnt.val < 16) (hq : s.rxq = b :: q) :
      Moves .reader s (collectByte b { s with rxq := q } hc)
  /-- R174 on a window that is a response (R184 to R186). -/
  | emits {s : State} (f : List Byte) (ch : Channel) (p : Payload12) (hl : s.lstate ≠ .closed)
      (hr : s.rstate = .run) (ha : s.ract = true) (hc : s.rxcnt.val = 16)
      (hb : s.rxbuf.toList = f.map .holding) (hd : dispatchWindow f s = .next (emit ch p s)) :
      Moves .reader s (closeWindow (emit ch p s))
  /-- R174 on a window that is an acknowledgment (R181). -/
  | acknowledges {s : State} (f : List Byte) (hl : s.lstate ≠ .closed) (hr : s.rstate = .run)
      (ha : s.ract = true) (hc : s.rxcnt.val = 16) (hb : s.rxbuf.toList = f.map .holding)
      (hd : dispatchWindow f s = .next (setAck s)) : Moves .reader s (closeWindow (setAck s))
  /-- R174 on any other window (R182). -/
  | desyncs {s : State} (f : List Byte) (c : Cause) (hl : s.lstate ≠ .closed) (hr : s.rstate = .run)
      (ha : s.ract = true) (hc : s.rxcnt.val = 16) (hb : s.rxbuf.toList = f.map .holding)
      (hd : dispatchWindow f s = .next (enterDesync c s)) (hk : c = .desyncOpcode ∨ c = .desyncCrc) :
      Moves .reader s (closeWindow (enterDesync c s))
  /-- R21. -/
  | appends {s : State} (b : Byte) (ht : s.topen = true) : Moves (.device b) s (rxAppend b s)
  /-- DEVICE may not append (log 2). -/
  | devicePasses {s : State} (b : Byte) (ht : s.topen = false) : Moves (.device b) s s

/-- A turn that answers a next state made one of the moves. -/
theorem turn_moves {e : Event} {s t : State} (h : turn e s = .next t) : Moves e s t := by
  cases e with
  | openReq q =>
    obtain ⟨hl, rfl⟩ := openBlock_eq_next.mp h
    exact .opens q hl
  | closeReq =>
    obtain ⟨hl, hc, rfl⟩ := closeBlock_eq_next.mp h
    exact .closes hl hc
  | closeDone st =>
    rcases completeClose_eq_next h with ⟨hl, hr, rfl⟩ | ⟨hn, rfl⟩
    · exact .closeEnds st hl hr
    · exact .closePasses st hn
  | cmdReq o p n =>
    obtain ⟨hl, hc, rfl⟩ := requestCommand_eq_next.mp ((hostRequest_eq o p n s).symm.trans h)
    exact .requests o p n hl hc
  | writer =>
    rcases writerTurn_eq_next h with ⟨hn, rfl⟩ | ⟨hl, ⟨hc, rfl⟩ | ⟨hc, f, hf, rfl⟩ | ⟨hc, ha, rfl⟩ |
      ⟨hc, ha, n, hn, h0, rfl⟩ | ⟨hc, ha, hn, rfl⟩⟩
    · exact .writerPasses hn
    · exact .clears hl hc
    · exact .sends f hl hc hf
    · exact .succeeds hl hc ha
    · exact .retries n hl hc ha hn h0
    · exact .exhausts hl hc ha hn
  | reader =>
    rcases readerTurn_eq_next h with ⟨hn, rfl⟩ | ⟨hl, ⟨hr, rfl⟩ | ⟨hr, ha, hs, rfl⟩ | ⟨hr, ha, hs, rfl⟩ |
      ⟨hr, ha, hc, hq, rfl⟩ | ⟨hr, ha, hc, b, q, hq, rfl⟩ | ⟨hr, ha, hc, f, u, hb, hu, rfl⟩⟩
    · exact .readerPasses hn
    · exact .flushes hl hr
    · exact .stops hl hr ha hs
    · exact .begins hl hr ha hs
    · exact .expires hl hr ha hc hq
    · exact .collects b q hl hr ha hc hq
    · rcases dispatchWindow_cases f s with ⟨ch, p, e⟩ | e | ⟨c, hk, e⟩ <;> cases e.symm.trans hu
      · exact .emits f ch p hl hr ha hc hb e
      · exact .acknowledges f hl hr ha hc hb e
      · exact .desyncs f c hl hr ha hc hb e hk
  | device b =>
    rcases deviceTurn_eq_next h with ⟨ht, rfl⟩ | ⟨ht, rfl⟩
    · exact .appends b ht
    · exact .devicePasses b ht

/-- A step that answers a next state had no turn to take, or made the move of its turn. -/
theorem step_moves {s t : State} (h : step s = .next t) :
    (s.sched = [] ∧ t = s) ∨ ∃ e rest, s.sched = e :: rest ∧ Moves e { s with sched := rest } t := by
  cases hs : s.sched with
  | nil => rw [step_of_nil hs] at h; cases h; exact .inl ⟨rfl, rfl⟩
  | cons e rest => rw [step_of_sched hs] at h; exact .inr ⟨e, rest, rfl, turn_moves h⟩

end Sys2Proof.Machine
end

