-- ==== Sys2Proof/Laws/PerInstr.lean ====
section
/-! SUPPORT. The per-instruction family RowEncoding: every row's encoding carries its table word and
has the length of its format (spec/30_encoding.md R71, R72, R74, R75). -/

namespace Sys2Proof.Laws

open Machine

/-- The word of an instruction's row in spec/opcode_table.json. -/
def rowWord : Instr → Nat
  | .distOn _ _ => 0xB032
  | .distOff _ _ => 0xB033
  | .velOn _ _ => 0xB034
  | .velOff _ _ => 0xB035
  | .stopAll _ _ => 0xB03C
  | .clrSmallSignal _ _ => 0xB03D
  | .clrVelOverflow _ _ => 0xB03F
  | .clrExtCapture _ _ => 0xB040
  | .meteoOn _ _ => 0xB079
  | .meteoOff _ _ => 0xB07A
  | .resetOrigin _ _ => 0xB048
  | .distData _ _ => 0xB015
  | .velData _ _ => 0xB016
  | .meteoData _ _ => 0xB00A
  | .ackDistOn _ _ => 0xB032
  | .ackDistOff _ _ => 0xB033
  | .ackVelOn _ _ => 0xB034
  | .ackVelOff _ _ => 0xB035
  | .ackStopAll _ _ => 0xB03C
  | .ackClrSmallSignal _ _ => 0xB03D
  | .ackClrVelOverflow _ _ => 0xB03F
  | .ackClrExtCapture _ _ => 0xB040
  | .ackMeteoOn _ _ => 0xB079
  | .ackMeteoOff _ _ => 0xB07A
  | .ackResetOrigin _ _ => 0xB048

/-- A request, or a window of 16 bytes whose residue is zero (R71, R72, R107). -/
def formatHolds : CodeUnit → Prop
  | .request _ _ _ => True
  | .window f => f.length = Config.rxFrameLen ∧ crc8 f = 0

/-- The encoding carries the row's word and has its format. -/
def RowEncoding.Statement (i : Instr) : Prop :=
  (encode i).opcode = some (BitVec.ofNat 16 (rowWord i)) ∧ formatHolds (encode i)

/-- An RSP16 frame carries the opcode it is made with and has its format. -/
theorem rspFrame_opcode_format (st : Byte) (o : Opcode) (p : Payload12) :
    (CodeUnit.window (rspFrame st o p)).opcode = some o ∧ formatHolds (.window (rspFrame st o p)) :=
  ⟨congrArg some (joinOpcode_hi_lo o), rspFrame_length st o p, crc8_rspFrame st o p⟩

namespace RowEncoding

theorem distOn (pay : Payload4) (n : RetryCount) : Statement (.distOn pay n) := ⟨rfl, trivial⟩
theorem distOff (pay : Payload4) (n : RetryCount) : Statement (.distOff pay n) := ⟨rfl, trivial⟩
theorem velOn (pay : Payload4) (n : RetryCount) : Statement (.velOn pay n) := ⟨rfl, trivial⟩
theorem velOff (pay : Payload4) (n : RetryCount) : Statement (.velOff pay n) := ⟨rfl, trivial⟩
theorem stopAll (pay : Payload4) (n : RetryCount) : Statement (.stopAll pay n) := ⟨rfl, trivial⟩
theorem clrSmallSignal (pay : Payload4) (n : RetryCount) : Statement (.clrSmallSignal pay n) := ⟨rfl, trivial⟩
theorem clrVelOverflow (pay : Payload4) (n : RetryCount) : Statement (.clrVelOverflow pay n) := ⟨rfl, trivial⟩
theorem clrExtCapture (pay : Payload4) (n : RetryCount) : Statement (.clrExtCapture pay n) := ⟨rfl, trivial⟩
theorem meteoOn (pay : Payload4) (n : RetryCount) : Statement (.meteoOn pay n) := ⟨rfl, trivial⟩
theorem meteoOff (pay : Payload4) (n : RetryCount) : Statement (.meteoOff pay n) := ⟨rfl, trivial⟩
theorem resetOrigin (pay : Payload4) (n : RetryCount) : Statement (.resetOrigin pay n) := ⟨rfl, trivial⟩
theorem distData (st : Byte) (p : Payload12) : Statement (.distData st p) := rspFrame_opcode_format st _ p
theorem velData (st : Byte) (p : Payload12) : Statement (.velData st p) := rspFrame_opcode_format st _ p
theorem meteoData (st : Byte) (p : Payload12) : Statement (.meteoData st p) := rspFrame_opcode_format st _ p
theorem ackDistOn (st : Byte) (p : Payload12) : Statement (.ackDistOn st p) := rspFrame_opcode_format st _ p
theorem ackDistOff (st : Byte) (p : Payload12) : Statement (.ackDistOff st p) := rspFrame_opcode_format st _ p
theorem ackVelOn (st : Byte) (p : Payload12) : Statement (.ackVelOn st p) := rspFrame_opcode_format st _ p
theorem ackVelOff (st : Byte) (p : Payload12) : Statement (.ackVelOff st p) := rspFrame_opcode_format st _ p
theorem ackStopAll (st : Byte) (p : Payload12) : Statement (.ackStopAll st p) := rspFrame_opcode_format st _ p
theorem ackClrSmallSignal (st : Byte) (p : Payload12) : Statement (.ackClrSmallSignal st p) := rspFrame_opcode_format st _ p
theorem ackClrVelOverflow (st : Byte) (p : Payload12) : Statement (.ackClrVelOverflow st p) := rspFrame_opcode_format st _ p
theorem ackClrExtCapture (st : Byte) (p : Payload12) : Statement (.ackClrExtCapture st p) := rspFrame_opcode_format st _ p
theorem ackMeteoOn (st : Byte) (p : Payload12) : Statement (.ackMeteoOn st p) := rspFrame_opcode_format st _ p
theorem ackMeteoOff (st : Byte) (p : Payload12) : Statement (.ackMeteoOff st p) := rspFrame_opcode_format st _ p
theorem ackResetOrigin (st : Byte) (p : Payload12) : Statement (.ackResetOrigin st p) := rspFrame_opcode_format st _ p

end RowEncoding

end Sys2Proof.Laws
end

