-- ==== Sys2Proof/Machine/Program.lean ====
section
/-! DEFINITION. The program notation of spec/30_encoding.md R87 and R88: which turns a listed program
stands for. It only chooses turns; every step it takes is `turn` (log 20, 22). -/

namespace Sys2Proof.Machine

/-- One listed event of a program (R88). -/
inductive ProgramLine where
  /-- `OPEN [RXQ0=<bytes>]`; an omitted RXQ0 means [] (R88, R290). -/
  | openBlock (rxq0 : List Byte := [])
  /-- `CMD opc=… pay=… retries=…`, the raw form of a host command (R87, R231). -/
  | cmd (opc : Opcode) (pay : Payload4) (maxRetries : RetryCount)
  /-- `CLOSE` (R245), with the status its completion gives: CLOSE_OK unless the program says
  otherwise (R88, R246). -/
  | close (status : CloseStatus := .closeOk)
  /-- `DEV <bytes>`: DEVICE appends these bytes one at a time. -/
  | dev (bytes : List Byte)
  /-- TIMEOUT-ACK (R236). -/
  | timeoutAck
  /-- WINDOW-EXPIRES (R173). -/
  | windowExpires
  /-- FLUSH (R183). -/
  | flush
  deriving DecidableEq, Repr

/-- `MNEMONIC [pay=…] retries=N`; an omitted payload means 00 00 00 00 (R87). -/
def ProgramLine.command (c : Command) (maxRetries : RetryCount) (pay : Payload4 := Payload4.zero) :
    ProgramLine :=
  .cmd c.opcode pay maxRetries

/-- WRITER's timeout step is enabled (R236, R280). -/
def timeoutEnabled (s : State) : Bool := s.lstate ≠ .closed && s.cstate = .wait && !s.ack

/-- READER's window-expiry step is enabled (R173, R280). -/
def expiryEnabled (s : State) : Bool :=
  s.lstate ≠ .closed && s.rstate = .run && s.ract && s.rxcnt.val < 16 && s.rxq = []

/-- READER's flush step is enabled (R183, R280). -/
def flushEnabled (s : State) : Bool := s.lstate ≠ .closed && s.rstate = .desync

/-- The turns a line lists in the state it is reached in (R88). DESIGN CHOICE (log 22): R88 is silent on
a TIMEOUT-ACK, a WINDOW-EXPIRES or a FLUSH whose own step is not enabled there; the line then lists no
turn. -/
def ProgramLine.turns (s : State) : ProgramLine → List Event
  | .openBlock rxq0 => [.openReq rxq0]
  | .cmd opc pay n => [.cmdReq opc pay n]
  | .close _ => [.closeReq]
  | .dev bytes => bytes.map .device
  | .timeoutAck => if timeoutEnabled s then [.writer] else []
  | .windowExpires => if expiryEnabled s then [.reader] else []
  | .flush => if flushEnabled s then [.reader] else []

/-- The status with which a close completes from this line on: that of the last CLOSE line (R88). -/
def ProgramLine.closeStatus (st : CloseStatus) : ProgramLine → CloseStatus
  | .close st' => st'
  | _ => st

/-- WRITER's enabled step that a program need not list: every one but the timeout (R88). -/
def writerUnlisted (s : State) : Bool :=
  s.lstate ≠ .closed && (match s.cstate with
    | .idle => false
    | .clear => true
    | .send => true
    | .wait => s.ack)

/-- READER's enabled step that a program need not list: every one but the window expiry and the
flush (R88). -/
def readerUnlisted (s : State) : Bool :=
  s.lstate ≠ .closed && s.rstate = .run && (!s.ract || s.rxcnt = 16 || s.rxq ≠ [])

/-- The turn taken between listed events, if any; close completion is taken as soon as it is enabled,
with the status `st` of the program's CLOSE line (R88). -/
def unlistedTurn (st : CloseStatus) (s : State) : Option Event :=
  if writerUnlisted s then some .writer
  else if readerUnlisted s then some .reader
  else if s.lstate = .closing ∧ s.rstate = .stopped then some (.closeDone st)
  else none

/-- Run on from the next state of an outcome that has one. -/
def thenRun (r : Result) (f : State → Result) : Result :=
  match r with
  | .next s => f s
  | .fault e => .fault e
  | .refused e => .refused e

/-- Take every step that need not be listed, at most `fuel` of them (a bound of the model, log 22). -/
def settle (st : CloseStatus) : Nat → State → Result
  | 0, s => .next s
  | fuel + 1, s =>
    match unlistedTurn st s with
    | none => .next s
    | some e => thenRun (turn e s) (settle st fuel)

/-- Take the listed turns, settling after each, at most `fuel` unlisted steps at a time. -/
def runTurns (st : CloseStatus) (fuel : Nat) : List Event → State → Result
  | [], s => .next s
  | e :: rest, s =>
    thenRun (turn e s) (fun t => thenRun (settle st fuel t) (runTurns st fuel rest))

/-- Run the lines of a program, `st` being the status of its last CLOSE line. -/
def runLines (fuel : Nat) : CloseStatus → List ProgramLine → State → Result
  | _, [], s => .next s
  | st, l :: rest, s =>
    thenRun (runTurns (l.closeStatus st) fuel (l.turns s) s) (runLines fuel (l.closeStatus st) rest)

/-- Run a program (R88). -/
def runProgram (fuel : Nat) (lines : List ProgramLine) (s : State) : Result :=
  runLines fuel .closeOk lines s

end Sys2Proof.Machine
end

