-- ==== Sys2Proof/Laws/Program.lean ====
section
/-! SUPPORT. What the program runner of R88 can do. -/

namespace Sys2Proof.Machine

@[simp] theorem thenRun_next (s : State) (f : State → Result) : thenRun (.next s) f = f s := rfl

/-- A run that goes on to a next state went through one. -/
theorem thenRun_eq_next {r : Result} {f : State → Result} {t : State} :
    thenRun r f = .next t ↔ ∃ s, r = .next s ∧ f s = .next t := by
  cases r <;> simp [thenRun]

/-- The unlisted turns: WRITER's, READER's, and close completion where it is enabled, with the status
of the program's CLOSE line (R88). -/
theorem unlistedTurn_eq_some {st : CloseStatus} {s : State} {e : Event}
    (h : unlistedTurn st s = some e) :
    e = .writer ∨ e = .reader ∨ (e = .closeDone st ∧ s.lstate = .closing ∧ s.rstate = .stopped) := by
  unfold unlistedTurn at h
  split at h
  · exact .inl (Option.some.inj h).symm
  · split at h
    · exact .inr (.inl (Option.some.inj h).symm)
    · split at h
      · rename_i hc
        exact .inr (.inr ⟨(Option.some.inj h).symm, hc⟩)
      · cases h

/-- A listed TIMEOUT-ACK takes WRITER's turn exactly where R236's timeout is its step (R88). -/
theorem turns_timeoutAck (s : State) :
    (ProgramLine.timeoutAck.turns s = [.writer] ∧ turn .writer s = writerTimeout s) ∨
    (ProgramLine.timeoutAck.turns s = [] ∧
      ¬ (s.lstate ≠ .closed ∧ s.cstate = .wait ∧ s.ack = false)) := by
  by_cases h : s.lstate ≠ .closed ∧ s.cstate = .wait ∧ s.ack = false
  · obtain ⟨h1, h2, h3⟩ := h
    exact .inl ⟨by simp [ProgramLine.turns, timeoutEnabled, h1, h2, h3],
      by simp [turn, writerTurn, h1, h2, h3]⟩
  · refine .inr ⟨?_, h⟩
    simp only [ProgramLine.turns]
    rw [if_neg]
    simpa [timeoutEnabled, and_assoc] using h

/-- A listed WINDOW-EXPIRES takes READER's turn exactly where R173's expiry is its step (R88). -/
theorem turns_windowExpires (s : State) :
    (ProgramLine.windowExpires.turns s = [.reader] ∧ turn .reader s = readerExpire s) ∨
    (ProgramLine.windowExpires.turns s = [] ∧
      ¬ (s.lstate ≠ .closed ∧ s.rstate = .run ∧ s.ract = true ∧ s.rxcnt.val < 16 ∧ s.rxq = [])) := by
  by_cases h : s.lstate ≠ .closed ∧ s.rstate = .run ∧ s.ract = true ∧ s.rxcnt.val < 16 ∧ s.rxq = []
  · obtain ⟨h1, h2, h3, h4, h5⟩ := h
    exact .inl ⟨by simp [ProgramLine.turns, expiryEnabled, h1, h2, h3, h4, h5],
      by simp [turn, readerTurn, readerCollect, h1, h2, h3, h4, h5]⟩
  · refine .inr ⟨?_, h⟩
    simp only [ProgramLine.turns]
    rw [if_neg]
    simpa [expiryEnabled, and_assoc] using h

/-- A listed FLUSH takes READER's turn exactly where R183's flush is its step (R88). -/
theorem turns_flush (s : State) :
    (ProgramLine.flush.turns s = [.reader] ∧ turn .reader s = .next (returnFromDesync s)) ∨
    (ProgramLine.flush.turns s = [] ∧ ¬ (s.lstate ≠ .closed ∧ s.rstate = .desync)) := by
  by_cases h : s.lstate ≠ .closed ∧ s.rstate = .desync
  · obtain ⟨h1, h2⟩ := h
    exact .inl ⟨by simp [ProgramLine.turns, flushEnabled, h1, h2], by simp [turn, readerTurn, h1, h2]⟩
  · refine .inr ⟨?_, h⟩
    simp only [ProgramLine.turns]
    rw [if_neg]
    simpa [flushEnabled] using h

/-- A block that waits only for its close completion settles closed, HOST having the program's
status (R88, R246). -/
theorem settle_close {st : CloseStatus} {fuel : Nat} {s : State} (hl : s.lstate = .closing)
    (hc : s.cstate = .idle) (hr : s.rstate = .stopped) :
    ∃ t, settle st (fuel + 1) s = .next t ∧ t.lstate = .closed ∧ t.topen = false ∧
      t.hostLog = s.hostLog ++ [.closeDone st] := by
  have hu : unlistedTurn st s = some (.closeDone st) := by
    simp [unlistedTurn, writerUnlisted, readerUnlisted, hl, hc, hr]
  refine ⟨{ complete (.closeDone st) s with
    topen := false, lstate := .closed, causeLog := s.causeLog ++ closeCauses st }, ?_, rfl, rfl, rfl⟩
  have ht : turn (.closeDone st) s = .next { complete (.closeDone st) s with
      topen := false, lstate := .closed, causeLog := s.causeLog ++ closeCauses st } := by
    simp [turn, completeClose, hl, hr]
  rw [settle, hu]
  simp only [ht, thenRun_next]
  cases fuel with
  | zero => rfl
  | succ n => simp [settle, unlistedTurn, writerUnlisted, readerUnlisted]

end Sys2Proof.Machine
end

