-- ==== Sys2Proof/Laws/Run.lean ====
section
/-! SUPPORT. Runs of many steps: one step peeled off, runs composed, and the agreement with the host's
own runner. -/

namespace Sys2Proof.Machine

@[simp] theorem runSteps_zero (s : State) : runSteps 0 s = .next s := rfl

theorem runSteps_succ_of_next {k : Nat} {s t : State} (h : step s = .next t) :
    runSteps (k + 1) s = runSteps k t := by
  simp [runSteps, h]

/-- A run that answers a next state took its first step to a next state. -/
theorem runSteps_succ_eq_next {k : Nat} {s t : State} :
    runSteps (k + 1) s = .next t ↔ ∃ u, step s = .next u ∧ runSteps k u = .next t := by
  cases h : step s <;> simp [runSteps, h]

/-- Two runs, one after the other. -/
theorem runSteps_add {j k : Nat} {s u : State} (h : runSteps j s = .next u) :
    runSteps (j + k) s = runSteps k u := by
  induction j generalizing s with
  | zero => cases h; simp
  | succ j ih =>
    obtain ⟨v, hv, hu⟩ := runSteps_succ_eq_next.mp h
    rw [Nat.succ_add, runSteps_succ_of_next hv, ih hu]

theorem coreRun_next {M : Host.Core} {k : Nat} {s t : M.State} (h : M.step s = .next t) :
    M.run (k + 1) s = M.run k t := by
  simp [Host.Core.run, h]

theorem coreRun_fault {M : Host.Core} {k : Nat} {s : M.State} {r : M.Fault}
    (h : M.step s = .fault r) : M.run (k + 1) s = .fault r := by
  simp [Host.Core.run, h]

theorem coreRun_refused {M : Host.Core} {k : Nat} {s : M.State} {r : M.Refusal}
    (h : M.step s = .refused r) : M.run (k + 1) s = .refused r := by
  simp [Host.Core.run, h]

/-- `runSteps` is the host's runner on this core. -/
theorem runSteps_eq_core_run (k : Nat) (s : State) :
    runSteps k s = Host.Core.run Sys2Proof.core k s := by
  induction k generalizing s with
  | zero => rfl
  | succ k ih =>
    cases h : step s with
    | next t => rw [runSteps_succ_of_next h, ih]; exact (coreRun_next (M := Sys2Proof.core) h).symm
    | fault r => rw [runSteps, h]; exact (coreRun_fault (M := Sys2Proof.core) h).symm
    | refused r => rw [runSteps, h]; exact (coreRun_refused (M := Sys2Proof.core) h).symm

end Sys2Proof.Machine
end

