-- ==== Sys2Proof/Tests/Slice0.lean ====
section
/-! SUPPORT. Tests: ill-formed terms, each row's decoding from a word written out from the spec, one
step of each row, the vectors of spec/95_test_vectors.md, and for each obligation with hypotheses a
witness that meets them. -/

namespace Sys2Proof.Tests

-- One proof at a time: many short proofs elaborated side by side need more memory than a check has.
set_option Elab.async false

open Machine

/-- The `n` bytes of a number, most significant first. -/
def hex : Nat → Nat → List Byte
  | 0, _ => []
  | n + 1, v => BitVec.ofNat 8 (v / 256 ^ n) :: hex n v

/-- A part of the next state, where there is one. -/
def got {α : Type} (f : State → α) : Result → Option α
  | .next t => some (f t)
  | .fault _ => none
  | .refused _ => none

/-- The fault a step stops with, if it does. -/
def faultOf : Result → Option Fault
  | .next _ => none
  | .fault r => some r
  | .refused _ => none

/-- The retry count 1, in a form that evaluates although RETRY_W is open. -/
def one : RetryCount := BitVec.ofNatLT 1 (Nat.one_lt_two_pow (Nat.succ_ne_zero _))

/-- The opened block with HOST's request next. -/
def asked (o : Opcode) (p : Payload4) (n : RetryCount) : State :=
  { State.reset with sched := [.cmdReq o p n] }

/-- The opened block with a full window and READER next. -/
def full (f : List Byte) : State :=
  { State.reset with ract := true, rxcnt := 16, rxbuf := windowOf f, sched := [.reader] }

/-- The payload 01 .. 0C. -/
def count12 : Payload12 := ⟨1, 2, 3, 4, 5, 6, 7, 8, 9, 10, 11, 12⟩

/-- distex, velex, mair, mmat, unk99 and corrupt of spec/95_test_vectors.md. -/
def distex : List Byte := hex 16 0xAAB0150000001DCD650000000801805C
def velex : List Byte := hex 16 0xAAB016FFFFFC180000000000000810C5
def mair : List Byte := hex 16 0xAAB00A0000642D6403279400000000_2B
def mmat : List Byte := hex 16 0xAAB00A02FF9C50200127100000000029
def unk99 : List Byte := hex 16 0xAAB099000000000000000000000000DA
def corrupt : List Byte := hex 16 0xAAB0150000011DCD650000000801805C

def distexPayload : Payload12 := ⟨0, 0, 0, 0x1D, 0xCD, 0x65, 0, 0, 0, 0x08, 0x01, 0x80⟩
def velexPayload : Payload12 := ⟨0xFF, 0xFF, 0xFC, 0x18, 0, 0, 0, 0, 0, 0, 0x08, 0x10⟩
def mairPayload : Payload12 := ⟨0, 0, 0x64, 0x2D, 0x64, 0x03, 0x27, 0x94, 0, 0, 0, 0⟩
def mmatPayload : Payload12 := ⟨0x02, 0xFF, 0x9C, 0x50, 0x20, 0x01, 0x27, 0x10, 0, 0, 0, 0⟩

/-! ### WellFormed refuses what the interface cannot express (R84, R86, R239) -/

theorem test_wellFormed_request : (WrittenRequest.mk 0xB032 [0, 0, 0, 255] 0).wellFormed = true := by
  simp [WrittenRequest.wellFormed, Config.retryBound]

theorem test_illFormed_opcode : (WrittenRequest.mk 0x10000 [0, 0, 0, 0] 0).wellFormed = false := by
  simp [WrittenRequest.wellFormed]

theorem test_illFormed_payloadLength :
    (WrittenRequest.mk 0xB032 [0, 0, 0] 0).wellFormed = false ∧
    (WrittenRequest.mk 0xB032 [0, 0, 0, 0, 0] 0).wellFormed = false := by
  simp [WrittenRequest.wellFormed]

theorem test_illFormed_payloadByte :
    (WrittenRequest.mk 0xB032 [0, 0, 256, 0] 0).wellFormed = false := by
  simp [WrittenRequest.wellFormed]

theorem test_illFormed_negativeRetries :
    (WrittenRequest.mk 0xB032 [0, 0, 0, 0] (-1)).wellFormed = false := by
  simp [WrittenRequest.wellFormed]

theorem test_illFormed_tooManyRetries :
    (WrittenRequest.mk 0xB032 [0, 0, 0, 0] Config.retryBound).wellFormed = false := by
  simp [WrittenRequest.wellFormed]

/-- The largest budget, 2^RETRY_W - 1, is expressed (R239). -/
theorem test_codeUnit_largestBudget :
    (WrittenRequest.mk 0xB032 [1, 2, 3, 4] (Config.retryBound - 1)).codeUnit =
      some (.request 0xB032 ⟨1, 2, 3, 4⟩ (BitVec.allOnes Config.retryWidth)) := by
  have h : 0 < Config.retryBound := Nat.two_pow_pos _
  have hv : ((Config.retryBound : Int) - 1).toNat = (BitVec.allOnes Config.retryWidth).toNat := by
    rw [BitVec.toNat_allOnes]; unfold Config.retryBound at h ⊢; omega
  have hw : (WrittenRequest.mk 0xB032 [1, 2, 3, 4] (Config.retryBound - 1)).wellFormed = true := by
    simp [WrittenRequest.wellFormed]; omega
  simp only [WrittenRequest.codeUnit, hw, if_true, hv, BitVec.ofNat_toNat, BitVec.setWidth_eq]
  rfl

/-! ### Each command: its word decodes (R74), and its request latches the frame of R144 to R154 -/

theorem test_distOn : decode (.request 0xB032 ⟨1, 2, 3, 4⟩ 3) = .ok (.distOn ⟨1, 2, 3, 4⟩ 3) ∧
    got (fun t => (t.txframe.bits.toList, t.rc, t.cstate)) (step (asked 0xB032 Payload4.zero one)) =
      some (hex 8 0xAAB032000000008E, .holding one, .clear) := ⟨rfl, by decide +kernel⟩

theorem test_distOff : decode (.request 0xB033 ⟨1, 2, 3, 4⟩ 3) = .ok (.distOff ⟨1, 2, 3, 4⟩ 3) ∧
    got (fun t => (t.txframe.bits.toList, t.rc, t.cstate)) (step (asked 0xB033 Payload4.zero one)) =
      some (hex 8 0xAAB033000000005D, .holding one, .clear) := ⟨rfl, by decide +kernel⟩

theorem test_velOn : decode (.request 0xB034 ⟨1, 2, 3, 4⟩ 3) = .ok (.velOn ⟨1, 2, 3, 4⟩ 3) ∧
    got (fun t => (t.txframe.bits.toList, t.rc, t.cstate)) (step (asked 0xB034 Payload4.zero one)) =
      some (hex 8 0xAAB0340000000006, .holding one, .clear) := ⟨rfl, by decide +kernel⟩

theorem test_velOff : decode (.request 0xB035 ⟨1, 2, 3, 4⟩ 3) = .ok (.velOff ⟨1, 2, 3, 4⟩ 3) ∧
    got (fun t => (t.txframe.bits.toList, t.rc, t.cstate)) (step (asked 0xB035 Payload4.zero one)) =
      some (hex 8 0xAAB03500000000D5, .holding one, .clear) := ⟨rfl, by decide +kernel⟩

theorem test_stopAll : decode (.request 0xB03C ⟨1, 2, 3, 4⟩ 3) = .ok (.stopAll ⟨1, 2, 3, 4⟩ 3) ∧
    got (fun t => (t.txframe.bits.toList, t.rc, t.cstate)) (step (asked 0xB03C Payload4.zero one)) =
      some (hex 8 0xAAB03C0000000038, .holding one, .clear) := ⟨rfl, by decide +kernel⟩

theorem test_clrSmallSignal : decode (.request 0xB03D ⟨1, 2, 3, 4⟩ 3) = .ok (.clrSmallSignal ⟨1, 2, 3, 4⟩ 3) ∧
    got (fun t => (t.txframe.bits.toList, t.rc, t.cstate)) (step (asked 0xB03D Payload4.zero one)) =
      some (hex 8 0xAAB03D00000000EB, .holding one, .clear) := ⟨rfl, by decide +kernel⟩

theorem test_clrVelOverflow : decode (.request 0xB03F ⟨1, 2, 3, 4⟩ 3) = .ok (.clrVelOverflow ⟨1, 2, 3, 4⟩ 3) ∧
    got (fun t => (t.txframe.bits.toList, t.rc, t.cstate)) (step (asked 0xB03F Payload4.zero one)) =
      some (hex 8 0xAAB03F000000007C, .holding one, .clear) := ⟨rfl, by decide +kernel⟩

theorem test_clrExtCapture : decode (.request 0xB040 ⟨1, 2, 3, 4⟩ 3) = .ok (.clrExtCapture ⟨1, 2, 3, 4⟩ 3) ∧
    got (fun t => (t.txframe.bits.toList, t.rc, t.cstate)) (step (asked 0xB040 Payload4.zero one)) =
      some (hex 8 0xAAB040000000005C, .holding one, .clear) := ⟨rfl, by decide +kernel⟩

theorem test_meteoOn : decode (.request 0xB079 ⟨1, 2, 3, 4⟩ 3) = .ok (.meteoOn ⟨1, 2, 3, 4⟩ 3) ∧
    got (fun t => (t.txframe.bits.toList, t.rc, t.cstate)) (step (asked 0xB079 Payload4.zero one)) =
      some (hex 8 0xAAB0790000000035, .holding one, .clear) := ⟨rfl, by decide +kernel⟩

theorem test_meteoOff : decode (.request 0xB07A ⟨1, 2, 3, 4⟩ 3) = .ok (.meteoOff ⟨1, 2, 3, 4⟩ 3) ∧
    got (fun t => (t.txframe.bits.toList, t.rc, t.cstate)) (step (asked 0xB07A Payload4.zero one)) =
      some (hex 8 0xAAB07A0000000071, .holding one, .clear) := ⟨rfl, by decide +kernel⟩

theorem test_resetOrigin : decode (.request 0xB048 ⟨1, 2, 3, 4⟩ 3) = .ok (.resetOrigin ⟨1, 2, 3, 4⟩ 3) ∧
    got (fun t => (t.txframe.bits.toList, t.rc, t.cstate)) (step (asked 0xB048 Payload4.zero one)) =
      some (hex 8 0xAAB0480000000062, .holding one, .clear) := ⟨rfl, by decide +kernel⟩

/-! ### Each response: its words of R184 to R186 decode, and one step emits the record -/

theorem test_decode_distData : decode (.window distex) = .ok (.distData 0xAA distexPayload) := by
  decide +kernel

theorem test_step_distData : got (fun t => (t.outDist, t.ack, t.rxcnt)) (step (full distex)) =
    some ([distexPayload], false, 0) := by decide +kernel

theorem test_decode_velData : decode (.window velex) = .ok (.velData 0xAA velexPayload) := by
  decide +kernel

theorem test_step_velData : got (fun t => (t.outVel, t.outDist, t.ract)) (step (full velex)) =
    some ([velexPayload], [], false) := by decide +kernel

theorem test_decode_meteoData : decode (.window mair) = .ok (.meteoData 0xAA mairPayload) ∧
    decode (.window mmat) = .ok (.meteoData 0xAA mmatPayload) := by decide +kernel

theorem test_step_meteoData :
    got (fun t => (t.outMair, t.outMmat)) (step (full mair)) = some ([mairPayload], []) ∧
    got (fun t => (t.outMair, t.outMmat)) (step (full mmat)) = some ([], [mmatPayload]) := by
  decide +kernel

/-! ### Each acknowledgment: the frames of R187 to R197 decode, and one step sets ACK -/

theorem test_ackDistOn :
    decode (.window (hex 16 0xAAB0320102030405060708090A0B0C41)) = .ok (.ackDistOn 0xAA count12) ∧
    got (fun t => (t.ack, t.rstate)) (step (full (hex 16 0xAAB0320000000000000000000000006F))) = some (true, .run) ∧
    got (fun t => (t.ack, t.rstate)) (step (full (hex 16 0xAAB03200000000000000000000000090))) =
      some (false, .desync) := by decide +kernel

theorem test_ackDistOff :
    decode (.window (hex 16 0xAAB0330102030405060708090A0B0C6D)) = .ok (.ackDistOff 0xAA count12) ∧
    got (fun t => (t.ack, t.rstate)) (step (full (hex 16 0xAAB03300000000000000000000000043))) = some (true, .run) ∧
    got (fun t => (t.ack, t.rstate)) (step (full (hex 16 0xAAB033000000000000000000000000BC))) =
      some (false, .desync) := by decide +kernel

theorem test_ackVelOn :
    decode (.window (hex 16 0xAAB0340102030405060708090A0B0CA9)) = .ok (.ackVelOn 0xAA count12) ∧
    got (fun t => (t.ack, t.rstate)) (step (full (hex 16 0xAAB03400000000000000000000000087))) = some (true, .run) ∧
    got (fun t => (t.ack, t.rstate)) (step (full (hex 16 0xAAB03400000000000000000000000078))) =
      some (false, .desync) := by decide +kernel

theorem test_ackVelOff :
    decode (.window (hex 16 0xAAB0350102030405060708090A0B0C85)) = .ok (.ackVelOff 0xAA count12) ∧
    got (fun t => (t.ack, t.rstate)) (step (full (hex 16 0xAAB035000000000000000000000000AB))) = some (true, .run) ∧
    got (fun t => (t.ack, t.rstate)) (step (full (hex 16 0xAAB03500000000000000000000000054))) =
      some (false, .desync) := by decide +kernel

theorem test_ackStopAll :
    decode (.window (hex 16 0xAAB03C0102030405060708090A0B0CF8)) = .ok (.ackStopAll 0xAA count12) ∧
    got (fun t => (t.ack, t.rstate)) (step (full (hex 16 0xAAB03C000000000000000000000000D6))) = some (true, .run) ∧
    got (fun t => (t.ack, t.rstate)) (step (full (hex 16 0xAAB03C00000000000000000000000029))) =
      some (false, .desync) := by decide +kernel

theorem test_ackClrSmallSignal :
    decode (.window (hex 16 0xAAB03D0102030405060708090A0B0CD4)) = .ok (.ackClrSmallSignal 0xAA count12) ∧
    got (fun t => (t.ack, t.rstate)) (step (full (hex 16 0xAAB03D000000000000000000000000FA))) = some (true, .run) ∧
    got (fun t => (t.ack, t.rstate)) (step (full (hex 16 0xAAB03D00000000000000000000000005))) =
      some (false, .desync) := by decide +kernel

theorem test_ackClrVelOverflow :
    decode (.window (hex 16 0xAAB03F0102030405060708090A0B0C8C)) = .ok (.ackClrVelOverflow 0xAA count12) ∧
    got (fun t => (t.ack, t.rstate)) (step (full (hex 16 0xAAB03F000000000000000000000000A2))) = some (true, .run) ∧
    got (fun t => (t.ack, t.rstate)) (step (full (hex 16 0xAAB03F0000000000000000000000005D))) =
      some (false, .desync) := by decide +kernel

theorem test_ackClrExtCapture :
    decode (.window (hex 16 0xAAB0400102030405060708090A0B0C24)) = .ok (.ackClrExtCapture 0xAA count12) ∧
    got (fun t => (t.ack, t.rstate)) (step (full (hex 16 0xAAB0400000000000000000000000000A))) = some (true, .run) ∧
    got (fun t => (t.ack, t.rstate)) (step (full (hex 16 0xAAB040000000000000000000000000F5))) =
      some (false, .desync) := by decide +kernel

theorem test_ackMeteoOn :
    decode (.window (hex 16 0xAAB0790102030405060708090A0B0C8E)) = .ok (.ackMeteoOn 0xAA count12) ∧
    got (fun t => (t.ack, t.rstate)) (step (full (hex 16 0xAAB079000000000000000000000000A0))) = some (true, .run) ∧
    got (fun t => (t.ack, t.rstate)) (step (full (hex 16 0xAAB0790000000000000000000000005F))) =
      some (false, .desync) := by decide +kernel

theorem test_ackMeteoOff :
    decode (.window (hex 16 0xAAB07A0102030405060708090A0B0CFA)) = .ok (.ackMeteoOff 0xAA count12) ∧
    got (fun t => (t.ack, t.rstate)) (step (full (hex 16 0xAAB07A000000000000000000000000D4))) = some (true, .run) ∧
    got (fun t => (t.ack, t.rstate)) (step (full (hex 16 0xAAB07A0000000000000000000000002B))) =
      some (false, .desync) := by decide +kernel

theorem test_ackResetOrigin :
    decode (.window (hex 16 0xAAB0480102030405060708090A0B0C75)) = .ok (.ackResetOrigin 0xAA count12) ∧
    got (fun t => (t.ack, t.rstate)) (step (full (hex 16 0xAAB0480000000000000000000000005B))) = some (true, .run) ∧
    got (fun t => (t.ack, t.rstate)) (step (full (hex 16 0xAAB048000000000000000000000000A4))) =
      some (false, .desync) := by decide +kernel

/-! ### Vectors of spec/95_test_vectors.md -/

/-- R104, R106, R109. -/
theorem test_crc_values : crc8 [] = 0xFF ∧ crc8 [0xFF] = 0x00 ∧ crc8 [0x00] = 0xAC ∧ crc8 [0xAA] = 0x8B ∧
    crc8 (hex 9 0x313233343536373839) = 0xF7 := by decide +kernel

/-- R142, and the framer's corner cases. -/
theorem test_framer_corners :
    (encodeCommand 0xB032 ⟨1, 2, 3, 4⟩).toList = hex 8 0xAAB0320102030470 ∧
    (encodeCommand 0x0000 Payload4.zero).toList = hex 8 0xAA000000000000CF ∧
    (encodeCommand 0xFFFF ⟨0xFF, 0xFF, 0xFF, 0xFF⟩).toList = hex 8 0xAAFFFFFFFFFFFF87 ∧
    (encodeCommand 0xB015 Payload4.zero).toList = hex 8 0xAAB015000000002D := by decide +kernel

/-- R127, and the bounds of R123 at seven bytes. -/
theorem test_sint_values : sint [0x00, 0x64] = .ok 100 ∧ sint (hex 7 0x0000001DCD6500) = .ok 500000000 ∧
    sint (hex 7 0x7FFFFFFFFFFFFF) = .ok 36028797018963967 ∧
    sint (hex 7 0x80000000000000) = .ok (-36028797018963968) := by decide +kernel

/-- Table L2.4a: unknown and invalid windows, all 16 opcode bits compared, START not checked. -/
theorem test_windows :
    decode (.window unk99) = .error (.unknownOpcode 0xB099) ∧
    decode (.window (hex 16 0xAAA032000000000000000000000000F1)) = .error (.unknownOpcode 0xA032) ∧
    decode (.window corrupt) = .error .badCrc ∧
    decode (.window (hex 16 0x6500000008_01805CAAB0150000001DCD)) = .error .badCrc ∧
    decode (.window (hex 16 0x55B0150000001DCD6500000008018095)) = .ok (.distData 0x55 distexPayload) ∧
    decode (.window (distex ++ [0])) = .error .wrongLength := by decide +kernel

/-- R182, R198, R199: a rejected window enters DESYNC, sets nothing and emits nothing. -/
theorem test_step_desync :
    got (fun t => (t.rstate, t.ack, t.outDist)) (step (full corrupt)) = some (.desync, false, []) ∧
    got (fun t => (t.rstate, t.ack, t.causeLog)) (step (full unk99)) =
      some (.desync, false, [.desyncOpcode]) := by decide +kernel

/-- Table L2.5a: overflow, laser, small signal (inverted) and level, one bit at a time. -/
theorem test_distView :
    distView distexPayload = ⟨500000000, true, true, true, 128⟩ ∧
    distView ⟨0, 0, 0, 0, 0, 0, 0, 0, 0, 0, 0x08, 0⟩ = ⟨0, false, false, false, 0⟩ ∧
    distView ⟨0, 0, 0, 0, 0, 0, 0, 0, 0, 0xF7, 0xF6, 0⟩ = ⟨0, false, false, true, 0⟩ ∧
    distView ⟨0xFF, 0xFF, 0xFF, 0xE2, 0x32, 0x9B, 0, 0, 0, 0, 0, 0⟩ = ⟨-500000000, false, false, true, 0⟩ := by
  decide +kernel

/-- Tables L2.5b and L2.5c. -/
theorem test_velView_meteoView :
    velView velexPayload = ⟨-1000, false, false, false, 16⟩ ∧
    meteoViewWith false mmatPayload = ⟨2, -100, 80, 32, 1, 10000⟩ ∧
    meteoViewWith false ⟨0xFF, 0x7F, 0xFF, 0x64, 0xFF, 0xFF, 0xFF, 0xFF, 0, 0, 0, 0⟩ =
      ⟨255, 32767, 100, 255, 255, 65535⟩ ∧
    meteoViewWith true ⟨0x01, 0x80, 0, 0, 0, 0, 0x80, 0, 0, 0, 0, 0⟩ = ⟨1, -32768, 0, 0, 0, -32768⟩ := by
  decide +kernel

/-- R73 on the DIST_ON frame and distex. -/
theorem test_words : cmdWord (encodeCommand 0xB032 Payload4.zero) = 0xAAB032000000008E ∧
    rspWord ⟨distex.toArray, rfl⟩ = 0xAAB0150000001DCD650000000801805C := by decide +kernel

/-- R78: a request with an opcode outside the table is latched and framed. -/
theorem test_step_unlistedRequest :
    got (fun t => (t.txframe.bits.toList, t.txframe.hasValue)) (step (asked 0x0000 Payload4.zero 0)) =
      some (hex 8 0xAA000000000000CF, true) := by decide +kernel

/-- R263: the refusals are reached. -/
theorem test_refusals :
    step { asked 0xB032 Payload4.zero 0 with cstate := .wait } = .refused .cmdReqInFlight ∧
    step { asked 0xB032 Payload4.zero 0 with lstate := .closing } = .refused .cmdReqNotOpen ∧
    step { State.reset with sched := [.closeReq], cstate := .send } = .refused .closeInFlight ∧
    step { State.beforeOpen with sched := [.closeReq] } = .refused .closeNotOpen ∧
    step { State.reset with sched := [.openReq []] } = .refused .openNotClosed := ⟨rfl, rfl, rfl, rfl, rfl⟩

/-- R42: a read of a register that holds no value faults. -/
theorem test_faults :
    faultOf (step { State.reset with sched := [.writer], cstate := .send }) = some (.noValue .txframe) ∧
    faultOf (step { State.reset with sched := [.writer], cstate := .wait }) = some (.noValue .rc) ∧
    faultOf (step { State.reset with sched := [.reader], ract := true, rxcnt := 16 }) =
      some (.noValue .rxbuf) := by decide +kernel

/-- Table words reach their rows: a command word a request, a response word a frame (log 10). -/
theorem test_tableWords :
    decodeTableWord 16 0xB032 = some (.distOn Payload4.zero 0) ∧
    decodeTableWord 16 0xB015 = some (.distData 0xAA Payload12.zero) ∧
    decodeTableWord 16 0xB099 = none := by decide +kernel

/-- R282: a command that ends EXHAUSTED and a close, each observed at its end with its own record. -/
theorem test_observations :
    observations 7 { State.reset with
      sched := [.cmdReq 0xB032 Payload4.zero 0, .writer, .writer, .writer, .closeReq, .reader,
        .closeDone .closeError] } =
      [.atCmdDone .exhausted (hex 8 0xAAB032000000008E) false (.holding 0) ⟨[], [], [], []⟩,
       .atCloseDone .closeError (hex 8 0xAAB032000000008E) ⟨[], [], [], []⟩] := by decide +kernel

/-- R88: a CLOSE completes with CLOSE_OK unless the program says otherwise, each CLOSE for itself. -/
theorem test_program_closeStatus :
    got State.hostLog (runProgram 8 [.openBlock, .close, .windowExpires, .openBlock,
      .close .closeError, .windowExpires] State.beforeOpen) =
      some [.closeDone .closeOk, .closeDone .closeError] := by decide +kernel

/-- A listed step that is not enabled is not taken (log 22): READER's window stays open. -/
theorem test_program_disabledLines :
    got (fun t => (t.ract, t.rstate, t.cstate, t.causeLog))
      (runProgram 8 [.openBlock, .flush, .timeoutAck] State.beforeOpen) =
      some (true, .run, .idle, []) := by decide +kernel

/-- R297: a VEL_ON after a DIST_ON needs a DIST_OFF or STOP_ALL between. -/
theorem test_distVelExclusive :
    distVelExclusive [.cmdReq 0xB032 Payload4.zero 0, .cmdReq 0xB034 Payload4.zero 0] = false ∧
    distVelExclusive [.cmdReq 0xB032 Payload4.zero 0, .writer, .cmdReq 0xB03C Payload4.zero 0,
      .cmdReq 0xB034 Payload4.zero 0] = true := by decide +kernel

/-- R46, R260. -/
theorem test_codes : LState.closing.code = 2 ∧ CState.wait.code = 3 ∧ RState.stopped.code = 2 ∧
    CResult.exhausted.code = 2 ∧ Cause.closeError.code = 6 := ⟨rfl, rfl, rfl, rfl, rfl⟩

/-! ### Witnesses: a state and operands that meet the hypotheses of each obligation that has any -/

/-- A command in flight in WAIT, with `n` retries left. -/
def inWait (ack : Bool) (n : RetryCount) : State :=
  { latchCommand 0xB032 Payload4.zero n State.reset with cstate := .wait, ack := ack }

/-- The block CLOSING, READER at its boundary. -/
def closing : State := { State.reset with lstate := .closing, stop := true }

/-- The block CLOSING, READER stopped. -/
def closingStopped : State := { closing with rstate := .stopped }

theorem inv_reset : StateInv State.reset := by
  constructor <;> simp [State.reset]

theorem inv_inFlight : StateInv (latchCommand 0xB032 Payload4.zero 0 State.reset) := by
  constructor <;> simp [State.reset, latchCommand]

theorem inv_closing : StateInv closing := by
  constructor <;> simp [State.reset, closing]

theorem witness_Crc8ResidueIsZero : distex.length = 16 := rfl

theorem witness_ChangedByteIsDetected :
    (tryParseInbound distex).isSome = true ∧ 0 < 16 ∧ (0x2A : Byte) ≠ distex.getD 0 0 ∧ 15 < 16 ∧
    (0x5D : Byte) ≠ distex.getD 15 0 := by decide +kernel

theorem witness_TwoBitBlindSpot :
    tryParseInbound (0xAA :: (hex 14 0xB015000000000000000000000000 ++ [0xDE])) =
      some ⟨0xB015, Payload12.zero⟩ := by decide +kernel

theorem witness_SignedDecoderIsTwosComplement : 8 * (([] : List Byte).length + 1) ≤ 8 := le_refl _

theorem witness_SignedDecoderRange : 1 ≤ 1 ∧ [(0x80 : Byte)].length = 1 ∧ [(0x7F : Byte)].length = 1 ∧
    sint [0x80] = sint [0x80] ∧ -2 ^ (8 * 1 - 1) ≤ (-128 : Int) ∧ (-128 : Int) < 2 ^ (8 * 1 - 1) ∧
    -2 ^ (8 * 1 - 1) ≤ (127 : Int) ∧ (127 : Int) < 2 ^ (8 * 1 - 1) := by decide

theorem witness_SignedEncodingRoundTrips : 1 ≤ 7 ∧
    -2 ^ (8 * 7 - 1) ≤ (-36028797018963968 : Int) ∧ (-36028797018963968 : Int) < 2 ^ (8 * 7 - 1) ∧
    encSigned 7 (-36028797018963968) = hex 7 0x80000000000000 := by decide +kernel

theorem witness_SignedDecoderCorners : 128 ≤ (0x80 : Byte).toNat ∧ 128 ≤ (0xFF : Byte).toNat := by decide

theorem witness_PressureReadingsAgreeBelow32768 :
    ({ Payload12.zero with p6 := 0x7F } : Payload12).p6.toNat < 0x80 ∧
    0x80 ≤ ({ Payload12.zero with p6 := 0x80 } : Payload12).p6.toNat := by decide

theorem witness_EncodeOfDecodeIsIdentity :
    decode (.request 0xB032 Payload4.zero 0) = .ok (.distOn Payload4.zero 0) ∧
    decode (.window distex) = .ok (.distData 0xAA distexPayload) := ⟨rfl, test_decode_distData⟩

theorem witness_FrameWordFields : 0 < 8 ∧ 7 < 8 ∧ 0 < 16 ∧ 15 < 16 := by decide

theorem witness_CommandsLatchTheirRequest :
    State.reset.lstate = .opened ∧ State.reset.cstate = .idle := ⟨rfl, rfl⟩

theorem witness_ResponsesEmitTheirRecord : mairPayload.p0 = 0 ∧ mmatPayload.p0 ≠ 0 := by decide

theorem witness_StepRunsTheDecodedInstruction :
    (asked 0xB032 Payload4.zero 0).sched = .cmdReq 0xB032 Payload4.zero 0 :: [] ∧
    decode (.request 0xB032 Payload4.zero 0) = .ok (.distOn Payload4.zero 0) ∧
    (full distex).sched = .reader :: [] ∧ (full distex).lstate ≠ .closed ∧
    (full distex).rstate = .run ∧ (full distex).ract = true ∧ (full distex).rxcnt = 16 ∧
    (full distex).rxbuf = windowOf distex ∧
    decode (.window distex) = .ok (.distData 0xAA distexPayload) :=
  ⟨rfl, rfl, rfl, by decide, rfl, rfl, rfl, rfl, test_decode_distData⟩

theorem witness_RequestStep :
    (asked 0x1234 Payload4.zero 0).sched = .cmdReq 0x1234 Payload4.zero 0 :: [] ∧
    (asked 0x1234 Payload4.zero 0).lstate = .opened ∧ (asked 0x1234 Payload4.zero 0).cstate = .idle ∧
    closing.lstate ≠ .opened ∧ (inWait false 0).cstate ≠ .idle := ⟨rfl, rfl, rfl, by decide, by decide⟩

theorem witness_OnlyBrokenHostDutiesAreRefused :
    { closing with sched := [.closeReq] }.sched = .closeReq :: [] ∧
    step { closing with sched := [.closeReq] } = .refused .closeNotOpen := ⟨rfl, rfl⟩

theorem witness_OpenStep :
    { State.beforeOpen with sched := [.openReq [0xAA]] }.sched = .openReq [0xAA] :: [] ∧
    State.beforeOpen.lstate = .closed ∧ State.reset.lstate ≠ .closed := ⟨rfl, rfl, by decide⟩

theorem witness_CloseStep :
    { State.reset with sched := [.closeReq] }.sched = .closeReq :: [] ∧
    State.reset.lstate = .opened ∧ State.reset.cstate = .idle ∧
    closing.lstate ≠ .opened ∧ (inWait false 0).cstate ≠ .idle :=
  ⟨rfl, rfl, rfl, by decide, by decide⟩

theorem witness_CloseCompletionStep :
    { closingStopped with sched := [.closeDone .closeError] }.sched = .closeDone .closeError :: [] ∧
    { closingStopped with sched := [.closeDone .closeOk] }.sched = .closeDone .closeOk :: [] ∧
    closingStopped.lstate = .closing ∧ closingStopped.rstate = .stopped := ⟨rfl, rfl, rfl, rfl⟩

theorem witness_DeviceAppendsOneByte :
    { State.reset with sched := [.device 0xAA] }.sched = .device 0xAA :: [] ∧
    State.reset.topen = true := ⟨rfl, rfl⟩

theorem witness_TurnWithoutAStepPasses : State.reset.sched = [] ∧ ¬ writerEnabled State.reset ∧
    ¬ readerEnabled State.beforeOpen ∧ ¬ closeEnabled closing ∧ State.beforeOpen.topen = false :=
  ⟨rfl, fun h => h.2 rfl, fun h => h.1 rfl, fun (h : closeEnabled closing) => absurd h.2 (by decide), rfl⟩

theorem witness_WriterClearStep :
    let s := { inWait true 0 with cstate := .clear, sched := [.writer] }
    s.sched = .writer :: [] ∧ s.lstate ≠ .closed ∧ s.cstate = .clear := ⟨rfl, by decide, rfl⟩

theorem witness_WriterSendStep :
    let s := { inWait false 0 with cstate := .send, sched := [.writer] }
    s.sched = .writer :: [] ∧ s.lstate ≠ .closed ∧ s.cstate = .send ∧
    s.txframe = .holding (encodeCommand 0xB032 Payload4.zero) := ⟨rfl, by decide, rfl, rfl⟩

theorem witness_WriterAcknowledgedStep :
    let s := { inWait true 0 with sched := [.writer] }
    s.sched = .writer :: [] ∧ s.lstate ≠ .closed ∧ s.cstate = .wait ∧ s.ack = true :=
  ⟨rfl, by decide, rfl, rfl⟩

theorem witness_WriterTimeoutStep :
    let s := fun n => { inWait false n with sched := [.writer, .cmdReq 0xB033 Payload4.zero 0] }
    (s 0).sched = .writer :: .cmdReq 0xB033 Payload4.zero 0 :: [] ∧ (s 0).lstate = .opened ∧
    (s 0).cstate = .wait ∧ (s 0).ack = false ∧ (s 0).rc = .holding 0 ∧ (s one).rc = .holding one ∧ one ≠ 0 :=
  ⟨rfl, rfl, rfl, rfl, rfl, rfl, by decide⟩

theorem witness_TransmissionCount : State.reset.lstate = .opened ∧ State.reset.cstate = .idle ∧
    (∀ e ∈ List.replicate 3 Event.writer, e.agent ≠ .host) ∧
    ∃ t, runSteps (3 + 1) { State.reset with
        sched := .cmdReq 0xB032 Payload4.zero 0 :: List.replicate 3 Event.writer } = .next t ∧
      t.cstate = .idle := ⟨rfl, rfl, by decide, _, rfl, rfl⟩

theorem got_of_next {α : Type} {f : State → α} {r : Result} {t : State} {a : α} (h : got f r = some a)
    (e : r = .next t) : f t = a := by
  subst e; exact Option.some.inj h

/-- DIST_ON with no retries, and turns in which READER and DEVICE come between WRITER's. -/
def unanswered : State :=
  { asked 0xB032 Payload4.zero 0 with
    sched := .cmdReq 0xB032 Payload4.zero 0 :: ([.writer, .reader, .writer, .device 0xAA, .writer] ++ []) }

/-- Both clauses: WRITER's turns alone, and turns of all three with no step that sets ACK. -/
theorem witness_UnacknowledgedCommandExhausts :
    (let s := { State.reset with
       sched := .cmdReq 0xB032 Payload4.zero 0 :: (List.replicate (3 * (0 + 1)) Event.writer ++ []) }
     s.lstate = .opened ∧ s.cstate = .idle) ∧
    (let es := [Event.writer, .reader, .writer, .device 0xAA, .writer]
     StateInv unanswered ∧ unanswered.lstate = .opened ∧ unanswered.cstate = .idle ∧
     unanswered.sched = .cmdReq 0xB032 Payload4.zero 0 :: (es ++ []) ∧ (∀ e ∈ es, e.agent ≠ .host) ∧
     3 * ((0 : RetryCount).toNat + 1) ≤ es.count .writer ∧
     ∀ k u v, k ≤ es.length → runSteps k unanswered = .next u → step u = .next v → u.ack = false →
       v.ack = false) := by
  refine ⟨⟨rfl, rfl⟩, ?_, rfl, rfl, rfl, by decide, by simp, ?_⟩
  · constructor <;> simp [unanswered, asked, State.reset]
  · intro k u v hk hu hv _
    have h : ∀ k ≤ 5, got (fun u => got State.ack (step u)) (runSteps k unanswered) =
        some (some false) := by decide +kernel
    exact got_of_next (got_of_next (h k hk) hu) hv

theorem witness_CommandEndsWithinItsBudget :
    let s := latchCommand 0xB032 Payload4.zero 0 State.reset
    let es := [Event.writer, .reader, .writer, .device 0xAA, .writer]
    StateInv s ∧ s.cstate ≠ .idle ∧ s.rc = .holding 0 ∧ (∀ e ∈ es, e.agent ≠ .host) ∧
    3 * (0 + 1) ≤ es.count .writer := ⟨inv_inFlight, by decide, rfl, by decide, by decide⟩

theorem witness_AnyAcknowledgmentCompletesTheWait :
    let s := { inWait false 0 with
      ract := true, rxcnt := 16, rxbuf := windowOf (rspFrame 0xAA Command.velOff.opcode count12),
      sched := [.reader, .writer] }
    s.lstate ≠ .closed ∧ s.cstate = .wait ∧ s.rstate = .run ∧ s.ract = true ∧ s.rxcnt = 16 ∧
    s.rxbuf = windowOf (rspFrame 0xAA Command.velOff.opcode count12) ∧
    s.sched = .reader :: .writer :: [] := ⟨by decide, rfl, rfl, rfl, rfl, rfl, rfl⟩

theorem witness_ReaderBoundaryStep :
    let s := fun b => { State.reset with stop := b, sched := [.reader] }
    (s true).sched = .reader :: [] ∧ (s true).lstate ≠ .closed ∧ (s true).rstate = .run ∧
    (s true).ract = false ∧ (s true).stop = true ∧ (s false).stop = false :=
  ⟨rfl, by decide, rfl, rfl, rfl, rfl⟩

theorem witness_ReaderCollectStep :
    let s := fun c => { State.reset with ract := true, rxcnt := c, rxq := [0xAA], sched := [.reader] }
    (s 0).sched = .reader :: [] ∧ (s 0).lstate ≠ .closed ∧ (s 0).rstate = .run ∧ (s 0).ract = true ∧
    (s 0).rxcnt.val = 0 ∧ (s 15).rxcnt.val = 15 ∧ (s 0).rxq = 0xAA :: [] :=
  ⟨rfl, by decide, rfl, rfl, rfl, rfl, rfl⟩

theorem witness_WindowExpiryStep :
    let s := fun c => { State.reset with ract := true, rxcnt := c, sched := [.reader] }
    (s 0).sched = .reader :: [] ∧ (s 0).lstate ≠ .closed ∧ (s 0).rstate = .run ∧ (s 0).ract = true ∧
    (s 0).rxcnt.val < 16 ∧ (s 15).rxcnt.val < 16 ∧ (s 0).rxq = [] :=
  ⟨rfl, by decide, rfl, rfl, by decide, by decide, rfl⟩

theorem witness_DesyncFlushStep :
    let s := { State.reset with rstate := .desync, rxq := [0xAA], sched := [.reader] }
    s.sched = .reader :: [] ∧ s.lstate ≠ .closed ∧ s.rstate = .desync := ⟨rfl, by decide, rfl⟩

/-- The window of each class: invalid, distance, velocity, air, material, acknowledgment, unknown. -/
theorem witness_ParseAndDispatchStep :
    ((full distex).sched = .reader :: [] ∧ (full distex).lstate ≠ .closed ∧
      (full distex).rstate = .run ∧ (full distex).ract = true ∧ (full distex).rxcnt = 16 ∧
      distex.length = 16 ∧ (full distex).rxbuf = windowOf distex) ∧
    tryParseInbound corrupt = none ∧
    classify (tryParseInbound distex) = .dist ∧ classify (tryParseInbound velex) = .vel ∧
    classify (tryParseInbound mair) = .meteo ∧ (tryParseInbound mair).map (·.payload.p0) = some 0 ∧
    classify (tryParseInbound mmat) = .meteo ∧ (tryParseInbound mmat).map (·.payload.p0) = some 2 ∧
    classify (tryParseInbound (hex 16 0xAAB0320000000000000000000000006F)) = .ack .distOn ∧
    classify (tryParseInbound unk99) = .unknown := by
  refine ⟨⟨rfl, by decide, rfl, rfl, rfl, rfl, rfl⟩, ?_⟩
  decide +kernel

theorem witness_SixteenCollectsFillTheWindow :
    let s := { State.reset with
      ract := true, rxq := distex ++ [], sched := List.replicate 16 Event.reader ++ [] }
    s.lstate ≠ .closed ∧ s.rstate = .run ∧ s.rxcnt = 0 ∧ distex.length = 16 := ⟨by decide, rfl, rfl, rfl⟩

theorem witness_InboundFrameRunsFromTheLine :
    let s := { State.reset with
      rxq := distex ++ [0xAA], sched := List.replicate 18 Event.reader ++ [] }
    encode (.distData 0xAA distexPayload) = .window distex ∧
    s.sched = List.replicate 18 Event.reader ++ [] ∧ s.lstate ≠ .closed ∧ s.rstate = .run ∧
    s.ract = false ∧ s.stop = false ∧ s.rxq = distex ++ [0xAA] := by
  refine ⟨by decide +kernel, rfl, by decide, rfl, rfl, rfl, rfl⟩

theorem witness_InvalidThenValidFrameGivesOneRecord :
    let s := { State.reset with
      rxq := corrupt
      sched := List.replicate 19 Event.reader ++ ((rspFrame 0xAA 0xB015 distexPayload).map Event.device ++
        (List.replicate 18 Event.reader ++ [])) }
    s.lstate ≠ .closed ∧ s.topen = true ∧ s.rstate = .run ∧ s.ract = false ∧ s.stop = false ∧
    corrupt.length = 16 ∧ tryParseInbound corrupt = none ∧ s.rxq = corrupt :=
  ⟨by decide, rfl, rfl, rfl, rfl, rfl, by decide +kernel, rfl⟩

theorem witness_StoppedReaderIsSilent :
    let s := { closingStopped with sched := [.device 0xAA] }
    s.rstate = .stopped ∧ (∀ q rest, s.sched ≠ .openReq q :: rest) ∧
    step s = .next { s with sched := [], rxq := [0xAA] } := ⟨rfl, by simp, rfl⟩

theorem witness_ReaderStopsWithinOneIteration :
    let es := List.replicate 19 Event.reader
    StateInv closing ∧ closing.lstate = .closing ∧ (∀ e ∈ es, e.agent ≠ .host) ∧
    19 ≤ es.count .reader := ⟨inv_closing, rfl, by decide, by decide⟩

theorem witness_StopIsSampledOnlyAtTheBoundary :
    let s := { closing with sched := [.reader] }
    step s = .next { s with sched := [], rstate := .stopped } ∧ s.rstate ≠ .stopped := ⟨rfl, by decide⟩

theorem witness_StepKeepsInvariant : StateInv State.reset ∧ step State.reset = .next State.reset :=
  ⟨inv_reset, rfl⟩

theorem witness_NoStepFaults : StateInv State.reset := inv_reset

theorem witness_StepKeepsTransmitLogFramed :
    StateInv State.reset ∧ TxFramed State.reset ∧ step State.reset = .next State.reset :=
  ⟨inv_reset, ⟨[], rfl⟩, rfl⟩

/-- One step for each clause: the log, ACK set, ACK cleared, a record, a byte taken, HOST's items,
WRITER's items, STOP cleared. -/
theorem witness_AccessDiscipline :
    (∃ t, step { inWait false 0 with cstate := .send, sched := [.writer] } = .next t ∧
      t.txs ≠ (inWait false 0).txs ∧ t.cstate ≠ .send) ∧
    got State.ack (step (full (hex 16 0xAAB0320000000000000000000000006F))) = some true ∧
    got State.ack (step { inWait true 0 with cstate := .clear, sched := [.writer] }) = some false ∧
    got State.outDist (step (full distex)) = some [distexPayload] ∧
    got State.rxq (step { State.reset with ract := true, rxq := [0xAA], sched := [.reader] }) = some [] ∧
    got State.lstate (step { State.reset with sched := [.closeReq] }) = some .closing ∧
    got State.stop (step { closing with lstate := .closed, sched := [.openReq []] }) = some false := by
  refine ⟨⟨_, rfl, by decide +kernel, by decide⟩, ?_⟩
  decide +kernel

theorem witness_LogsOnlyGrow : step State.reset = .next State.reset ∧
    ∀ q rest, State.reset.sched ≠ .openReq q :: rest := ⟨rfl, by simp [State.reset]⟩

theorem witness_RetryBudgetOnlyCountsDown :
    let s := { inWait false one with sched := [.writer] }
    s.sched = .writer :: [] ∧ (∀ o p k, Event.writer ≠ .cmdReq o p k) ∧ s.rc = .holding one ∧
    ∃ t, step s = .next t ∧ t.rc = .holding (one - 1) := ⟨rfl, by simp, rfl, _, rfl, rfl⟩

/-- A command's two outcomes, and the two kinds of observed step. -/
theorem witness_CommandOutcomeIsPrecise :
    let s := fun a => { inWait a 0 with sched := [.writer] }
    let c := { closingStopped with sched := [.closeDone .closeOk] }
    (s true).sched = .writer :: [] ∧
    (∃ t, step (s true) = .next t ∧ t.hostLog = (s true).hostLog ++ [.cmdDone .ok] ∧
      observation (s true) t ≠ none) ∧
    (∃ t, step (s false) = .next t ∧ t.hostLog = (s false).hostLog ++ [.cmdDone .exhausted]) ∧
    ∃ t, step c = .next t ∧ observation c t ≠ none :=
  ⟨rfl, ⟨_, rfl, rfl, Option.some_ne_none _⟩, ⟨_, rfl, rfl⟩, _, rfl, Option.some_ne_none _⟩

theorem witness_OnlyOpenHasAStepInClosed :
    let s := { State.beforeOpen with sched := [.device 0xAA] }
    s.sched = .device 0xAA :: [] ∧ s.lstate = .closed ∧ s.topen = false ∧
    step s = .next { s with sched := [] } := ⟨rfl, rfl, rfl, rfl⟩

/-! ### Two fair runs -/

/-- The state a turn leaves, or the same state where it leaves none. -/
def follow (e : Event) (s : State) : State :=
  match turn e s with
  | .next t => t
  | .fault _ => s
  | .refused _ => s

/-- The run of the turns `σ` from `s`. -/
def runFrom (σ : Nat → Event) (s : State) : Nat → State
  | 0 => s
  | k + 1 => follow (σ k) (runFrom σ s k)

/-- WRITER takes three turns, then READER every turn: one transmission, a timeout, and empty reads. -/
def turnsA (k : Nat) : Event := if k < 3 then .writer else .reader

def runA : Nat → State := runFrom turnsA (latchCommand 0xB032 Payload4.zero 0 State.reset)

/-- The cause log with `j` empty reads behind the timeout. -/
def emptyReads : Nat → List Cause
  | 0 => [.connectionExhausted]
  | j + 1 => emptyReads j ++ [.shortRead]

/-- The run's states from its third turn on, with `j` empty reads behind it. -/
def runA_state (j : Nat) (reading : Bool) : State :=
  { latchCommand 0xB032 Payload4.zero 0 State.reset with
      cstate := .idle, cresult := .exhausted, ract := reading,
      txs := (encodeCommand 0xB032 Payload4.zero).toList, hostLog := [.cmdDone .exhausted],
      causeLog := emptyReads j }

theorem runA_step (j : Nat) : turn .reader (runA_state j false) = .next (runA_state j true) ∧
    turn .reader (runA_state j true) = .next (runA_state (j + 1) false) := ⟨rfl, rfl⟩

theorem runA_tail (j : Nat) :
    runA (3 + 2 * j) = runA_state j false ∧ runA (3 + 2 * j + 1) = runA_state j true := by
  have next : ∀ j, runA (3 + 2 * j) = runA_state j false →
      runA (3 + 2 * j + 1) = runA_state j true := by
    intro j h
    show follow (turnsA (3 + 2 * j)) (runA (3 + 2 * j)) = _
    rw [h, turnsA, if_neg (by omega), follow, (runA_step j).1]
  induction j with
  | zero => exact ⟨rfl, next 0 rfl⟩
  | succ j ih =>
    have h : runA (3 + 2 * (j + 1)) = runA_state (j + 1) false := by
      show follow (turnsA (3 + 2 * j + 1)) (runA (3 + 2 * j + 1)) = _
      rw [ih.2, turnsA, if_neg (by omega), follow, (runA_step j).2]
    exact ⟨h, next (j + 1) h⟩

theorem runA_cases (k : Nat) : k < 3 ∨ ∃ j, k = 3 + 2 * j ∨ k = 3 + 2 * j + 1 := by
  by_cases h : k < 3
  · exact .inl h
  · exact .inr ⟨(k - 3) / 2, by omega⟩

theorem runA_opened (k : Nat) : (runA k).lstate = .opened := by
  rcases runA_cases k with h | ⟨j, rfl | rfl⟩
  · interval_cases k <;> rfl
  · rw [(runA_tail j).1]; rfl
  · rw [(runA_tail j).2]; rfl

theorem runA_fair : FairRun turnsA runA where
  run k := by
    rcases runA_cases k with h | ⟨j, rfl | rfl⟩
    · interval_cases k <;> rfl
    · rw [(runA_tail j).1, (runA_tail j).2, turnsA, if_neg (by omega), (runA_step j).1]
    · have h := (runA_tail (j + 1)).1
      rw [(runA_tail j).2, show 3 + 2 * j + 1 + 1 = 3 + 2 * (j + 1) by omega, h, turnsA,
        if_neg (by omega), (runA_step j).2]
  writerFair k h := by
    have hk := h (3 + 2 * k) (by omega)
    rw [(runA_tail k).1] at hk
    exact absurd rfl hk.2
  readerFair k _ := ⟨k + 3, by omega, if_neg (by omega)⟩
  closeFair k h := by
    have hk := (h k (le_refl k)).1
    rw [runA_opened k] at hk
    cases hk

theorem witness_FairRunEndsEveryCommand :
    FairRun turnsA runA ∧ StateInv (runA 0) ∧ (runA 0).cstate ≠ .idle :=
  ⟨runA_fair, inv_inFlight, by decide⟩

theorem witness_FairRunReturnsToTheBoundary :
    FairRun turnsA runA ∧ StateInv (runA 0) ∧ ∀ j, 0 ≤ j → (runA j).lstate = .opened :=
  ⟨runA_fair, inv_inFlight, fun j _ => runA_opened j⟩

/-- READER stops, the close completes, and then READER's turns pass. -/
def turnsB (k : Nat) : Event := if k = 1 then .closeDone .closeOk else .reader

def runB : Nat → State := runFrom turnsB closing

theorem runB_tail (j : Nat) : runB (2 + j) = runB 2 := by
  induction j with
  | zero => rfl
  | succ j ih =>
    show follow (turnsB (2 + j)) (runB (2 + j)) = _
    rw [ih, turnsB, if_neg (by omega)]
    rfl

theorem runB_closed (k : Nat) (h : 2 ≤ k) : (runB k).lstate = .closed := by
  obtain ⟨j, rfl⟩ := Nat.exists_eq_add_of_le h
  rw [runB_tail]; rfl

theorem runB_fair : FairRun turnsB runB where
  run k := by
    by_cases h : k < 2
    · interval_cases k <;> rfl
    · obtain ⟨j, rfl⟩ := Nat.exists_eq_add_of_le (Nat.le_of_not_lt h)
      rw [runB_tail, Nat.add_assoc, runB_tail, turnsB, if_neg (by omega)]
      rfl
  writerFair k h := absurd (runB_closed (k + 2) (by omega)) (h (k + 2) (by omega)).1
  readerFair k h := absurd (runB_closed (k + 2) (by omega)) (h (k + 2) (by omega)).1
  closeFair k h := by
    have hk := (h (k + 2) (by omega)).1
    rw [runB_closed (k + 2) (by omega)] at hk
    cases hk

theorem witness_FairRunCompletesEveryClose :
    FairRun turnsB runB ∧ StateInv (runB 0) ∧ (runB 0).lstate = .closing :=
  ⟨runB_fair, inv_closing, rfl⟩

end Sys2Proof.Tests
end

section
/-! SUPPORT. What the moves of the machine keep: the rules over StateInv, one per operation of the
state; which agent's moves write which part of the state; and how the logs, RC and what is observed
change in a move. -/

namespace Sys2Proof.Machine

/-! ### The invariant, one rule per operation -/

section Invariant

variable {s : State}

/-- The invariant does not speak of the list of turns (log 1). -/
theorem StateInv.withSched (h : StateInv s) (l : List Event) : StateInv { s with sched := l } :=
  { h with }

/-- Open establishes the invariant, whatever the state before it (R290). -/
theorem stateInv_openedState (q : List Byte) (s : State) : StateInv (openedState q s) where
  transport := by simp
  inFlight := by simp
  latched := by simp
  stopClear _ := rfl
  stopSet := by simp
  stopped := by simp
  closedStopped := by simp
  window := by simp
  idleWindow _ := rfl
  collected := by simp

theorem StateInv.afterClose (h : StateInv s) (hl : s.lstate = .opened) (hc : s.cstate = .idle) :
    StateInv { setStop s with lstate := .closing } :=
  { h with
    transport := by simp [h.transport, hl]
    inFlight := absurd hc
    stopClear := nofun
    stopSet := fun _ => rfl
    stopped := fun _ => nofun
    closedStopped := nofun }

theorem StateInv.afterCloseCompletion (h : StateInv s) (st : CloseStatus) (hl : s.lstate = .closing)
    (hr : s.rstate = .stopped) :
    StateInv { complete (.closeDone st) s with
      topen := false, lstate := .closed, causeLog := s.causeLog ++ closeCauses st } :=
  { h with
    transport := by simp
    inFlight := fun hc => absurd (hl.symm.trans (h.inFlight hc)) nofun
    stopClear := nofun
    stopSet := nofun
    stopped := fun _ => nofun
    closedStopped := fun _ => hr }

theorem StateInv.afterLatch (h : StateInv s) (o : Opcode) (p : Payload4) (n : RetryCount)
    (hl : s.lstate = .opened) : StateInv (latchCommand o p n s) :=
  { h with
    inFlight := fun _ => hl
    latched := fun _ => ⟨o, p, n, rfl, rfl, rfl, rfl⟩ }

/-- A command in flight may go to any control state: its registers stay written. -/
theorem StateInv.withCstate (h : StateInv s) (hc : s.cstate ≠ .idle) (c : CState) :
    StateInv { s with cstate := c } :=
  { h with
    inFlight := fun _ => h.inFlight hc
    latched := fun _ => h.latched hc }

/-- RC may take another value. -/
theorem StateInv.withRc (h : StateInv s) (n : RetryCount) : StateInv { s with rc := .holding n } :=
  { h with
    latched := fun hc =>
      have ⟨o, p, _, ho, hp, _, hf⟩ := h.latched hc
      ⟨o, p, n, ho, hp, rfl, hf⟩ }

theorem StateInv.afterFinish (h : StateInv s) (r : CmdOutcome) : StateInv (finishCommand r s) :=
  { h with
    inFlight := absurd rfl
    latched := absurd rfl }

theorem StateInv.afterClearAck (h : StateInv s) : StateInv (clearAck s) := { h with }

theorem StateInv.afterSetAck (h : StateInv s) : StateInv (setAck s) := { h with }

theorem StateInv.afterTxPush (h : StateInv s) (bytes : List Byte) : StateInv (txPush bytes s) :=
  { h with }

theorem StateInv.afterLogCause (h : StateInv s) (c : Cause) : StateInv (logCause c s) := { h with }

theorem StateInv.afterRxAppend (h : StateInv s) (b : Byte) : StateInv (rxAppend b s) := { h with }

theorem StateInv.afterEmit (h : StateInv s) (ch : Channel) (p : Payload12) :
    StateInv (emit ch p s) := by
  cases ch <;> exact { h with }

/-- READER stops where STOP = 1, which the invariant rules out in OPEN (R171, R39). -/
theorem StateInv.afterStop (h : StateInv s) (ha : s.ract = false) (hs : s.stop = true) :
    StateInv { s with rstate := .stopped } :=
  { h with
    stopped := fun _ hl => absurd (hs.symm.trans (h.stopClear hl)) nofun
    closedStopped := fun _ => rfl
    window := fun hw => absurd (ha.symm.trans hw) nofun }

theorem StateInv.afterBeginWindow (h : StateInv s) (hr : s.rstate = .run) :
    StateInv (beginWindow s) :=
  { h with
    window := fun _ => hr
    idleWindow := nofun
    collected := fun _ _ => nofun }

theorem StateInv.afterCloseWindow (h : StateInv s) : StateInv (closeWindow s) :=
  { h with
    window := nofun
    idleWindow := fun _ => rfl
    collected := fun _ _ => nofun }

/-- A byte leaves RXQ for offset RXCNT of RXBUF, which extends the offsets that hold values by one. -/
theorem StateInv.afterCollect (h : StateInv s) (b : Byte) (q : List Byte) (hc : s.rxcnt.val < 16)
    (ha : s.ract = true) : StateInv (collectByte b { s with rxq := q } hc) :=
  { h with
    idleWindow := fun hw => absurd (ha.symm.trans hw) nofun
    collected := fun i hi hlt => by
      rw [collectByte_rxbuf]
      obtain hi' | rfl := Nat.lt_succ_iff_lt_or_eq.mp hlt
      · rw [Vector.getElem_set_ne _ _ (Nat.ne_of_gt hi')]
        exact h.collected i hi hi'
      · simp }

theorem StateInv.afterDesyncEntry (h : StateInv s) (c : Cause) (hl : s.lstate ≠ .closed)
    (ha : s.ract = false) : StateInv (enterDesync c s) :=
  { h with
    stopped := nofun
    closedStopped := fun hl' => absurd hl' hl
    window := fun hw => absurd (ha.symm.trans hw) nofun }

theorem StateInv.afterDesyncReturn (h : StateInv s) (hl : s.lstate ≠ .closed) :
    StateInv (returnFromDesync s) :=
  { h with
    stopped := nofun
    closedStopped := fun hl' => absurd hl' hl
    window := fun _ => rfl }

/-- Every move keeps the invariant. -/
theorem Moves.keeps_inv {e : Event} {t : State} (hm : Moves e s t) (h : StateInv s) :
    StateInv t := by
  cases hm with
  | opens q => exact stateInv_openedState q s
  | closes hl hc => exact h.afterClose hl hc
  | closeEnds st hl hr => exact h.afterCloseCompletion st hl hr
  | requests o p n hl => exact h.afterLatch o p n hl
  | clears _ hc => exact h.afterClearAck.withCstate (hc.trans_ne nofun) .send
  | sends f _ hc => exact (h.afterTxPush f.toList).withCstate (hc.trans_ne nofun) .wait
  | succeeds => exact h.afterFinish .ok
  | retries n _ hc =>
    exact ((h.afterLogCause .ackWaitTimeout).withRc (n - 1)).withCstate (hc.trans_ne nofun) .clear
  | exhausts => exact (h.afterLogCause .connectionExhausted).afterFinish .exhausted
  | flushes hl => exact h.afterDesyncReturn hl
  | stops _ _ ha hs => exact h.afterStop ha hs
  | begins _ hr => exact h.afterBeginWindow hr
  | expires => exact (h.afterLogCause .shortRead).afterCloseWindow
  | collects b q _ _ ha hc => exact h.afterCollect b q hc ha
  | emits _ ch p => exact (h.afterEmit ch p).afterCloseWindow
  | acknowledges => exact h.afterSetAck.afterCloseWindow
  | desyncs _ c hl => exact h.afterCloseWindow.afterDesyncEntry c hl rfl
  | appends b => exact h.afterRxAppend b
  | closePasses | writerPasses | readerPasses | devicePasses => exact h

end Invariant

/-! ### Which agent's moves write which part of the state -/

/-- The output channels and READER's registers are the same in both states. -/
structure ReaderPartKept (s t : State) : Prop where
  outDist : t.outDist = s.outDist
  outVel : t.outVel = s.outVel
  outMair : t.outMair = s.outMair
  outMmat : t.outMmat = s.outMmat
  ract : t.ract = s.ract
  rxbuf : t.rxbuf = s.rxbuf
  rxcnt : t.rxcnt = s.rxcnt
  rstate : t.rstate = s.rstate

/-- The items that HOST alone writes are the same in both states. -/
structure HostPartKept (s t : State) : Prop where
  lstate : t.lstate = s.lstate
  topen : t.topen = s.topen
  stop : t.stop = s.stop
  opc : t.opc = s.opc
  pay : t.pay = s.pay
  txframe : t.txframe = s.txframe

/-- The items of a command that HOST and WRITER write are the same in both states. -/
structure CommandPartKept (s t : State) : Prop where
  cstate : t.cstate = s.cstate
  rc : t.rc = s.rc
  cresult : t.cresult = s.cresult

section Frames

variable {e : Event} {s t : State}

theorem Moves.writer_or_txs_kept (hm : Moves e s t) : e = .writer ∨ t.txs = s.txs := by
  cases hm with
  | writerPasses | clears | sends | succeeds | retries | exhausts => exact .inl rfl
  | emits => exact .inr (emit_txs ..)
  | _ => exact .inr rfl

theorem Moves.reader_or_open_or_readerPart_kept (hm : Moves e s t) :
    (e = .reader ∨ ∃ q, e = .openReq q) ∨ ReaderPartKept s t := by
  cases hm with
  | opens q => exact .inl (.inr ⟨q, rfl⟩)
  | readerPasses | flushes | stops | begins | expires | collects | emits | acknowledges | desyncs =>
    exact .inl (.inl rfl)
  | _ => exact .inr ⟨rfl, rfl, rfl, rfl, rfl, rfl, rfl, rfl⟩

theorem Moves.reader_or_open_or_rxq_prefix (hm : Moves e s t) :
    (e = .reader ∨ ∃ q, e = .openReq q) ∨ s.rxq <+: t.rxq := by
  cases hm with
  | opens q => exact .inl (.inr ⟨q, rfl⟩)
  | readerPasses | flushes | stops | begins | expires | collects | emits | acknowledges | desyncs =>
    exact .inl (.inl rfl)
  | appends b => exact .inr (List.prefix_append _ _)
  | _ => exact .inr List.prefix_rfl

/-- READER takes bytes from the head of RXQ, or all of them, and puts none there (R44). -/
theorem Moves.rxq_suffix (hm : Moves .reader s t) : t.rxq <:+ s.rxq := by
  cases hm with
  | flushes => exact List.nil_suffix
  | collects b q _ _ _ _ hq =>
    rw [hq]
    exact List.suffix_cons b q
  | emits => exact (emit_rxq ..).symm ▸ List.suffix_rfl
  | _ => exact List.suffix_rfl

theorem Moves.host_or_hostPart_kept (hm : Moves e s t) : e.agent = .host ∨ HostPartKept s t := by
  cases hm with
  | opens | closes | closeEnds | closePasses | requests => exact .inl rfl
  | emits => exact .inr (by constructor <;> simp)
  | _ => exact .inr ⟨rfl, rfl, rfl, rfl, rfl, rfl⟩

theorem Moves.host_or_writer_or_commandPart_kept (hm : Moves e s t) :
    (e.agent = .host ∨ e.agent = .writer) ∨ CommandPartKept s t := by
  cases hm with
  | opens | closes | closeEnds | closePasses | requests => exact .inl (.inl rfl)
  | writerPasses | clears | sends | succeeds | retries | exhausts => exact .inl (.inr rfl)
  | emits => exact .inr (by constructor <;> simp)
  | _ => exact .inr ⟨rfl, rfl, rfl⟩

/-- Who writes ACK: open and WRITER's clear step clear it, READER sets it (R40). -/
theorem Moves.ack_cases (hm : Moves e s t) :
    t.ack = s.ack ∨ ((e = .writer ∨ ∃ q, e = .openReq q) ∧ t.ack = false) ∨
      (e = .reader ∧ t.ack = true) := by
  cases hm with
  | opens q => exact .inr (.inl ⟨.inr ⟨q, rfl⟩, rfl⟩)
  | clears => exact .inr (.inl ⟨.inl rfl, rfl⟩)
  | acknowledges => exact .inr (.inr ⟨rfl, rfl⟩)
  | emits => exact .inl (emit_ack ..)
  | _ => exact .inl rfl

/-- Who writes STOP: open clears it, close sets it (R39). -/
theorem Moves.stop_cases (hm : Moves e s t) :
    t.stop = s.stop ∨ (∃ q, e = .openReq q) ∨ t.stop = true := by
  cases hm with
  | opens q => exact .inr (.inl ⟨q, rfl⟩)
  | closes => exact .inr (.inr rfl)
  | emits => exact .inl (emit_stop ..)
  | _ => exact .inl rfl

/-- Who writes RC: open and a request set it, and a timeout step with a retry left takes one off
(R236, R290). -/
theorem Moves.rc_cases (hm : Moves e s t) :
    t.rc = s.rc ∨ t.rc = rcAtOpen ∨ (∃ o p k, e = .cmdReq o p k) ∨
      (e = .writer ∧ s.cstate = .wait ∧ s.ack = false ∧ t.cstate = .clear ∧
        ∃ n, n ≠ 0 ∧ s.rc = .holding n ∧ t.rc = .holding (n - 1)) := by
  cases hm with
  | opens => exact .inr (.inl rfl)
  | requests o p k => exact .inr (.inr (.inl ⟨o, p, k, rfl⟩))
  | retries n _ hc ha hn h0 => exact .inr (.inr (.inr ⟨rfl, hc, ha, rfl, n, h0, hn, rfl⟩))
  | emits => exact .inl (emit_rc ..)
  | _ => exact .inl rfl

/-! ### The logs and channels grow at the tail -/

/-- Each output channel of the second state starts with what the first's holds. -/
structure ChannelsGrow (s t : State) : Prop where
  outDist : s.outDist <+: t.outDist
  outVel : s.outVel <+: t.outVel
  outMair : s.outMair <+: t.outMair
  outMmat : s.outMmat <+: t.outMmat

theorem channelsGrow_refl (s : State) : ChannelsGrow s s :=
  ⟨List.prefix_rfl, List.prefix_rfl, List.prefix_rfl, List.prefix_rfl⟩

theorem channelsGrow_emit (ch : Channel) (p : Payload12) (s : State) :
    ChannelsGrow s (emit ch p s) := by
  cases ch <;> constructor <;> simp

theorem Moves.open_or_channelsGrow (hm : Moves e s t) :
    (∃ q, e = .openReq q) ∨ ChannelsGrow s t := by
  cases hm with
  | opens q => exact .inl ⟨q, rfl⟩
  | emits _ ch p => exact .inr { channelsGrow_emit ch p s with }
  | _ => exact .inr { channelsGrow_refl s with }

theorem Moves.txs_prefix (hm : Moves e s t) : s.txs <+: t.txs := by
  cases hm with
  | sends => exact List.prefix_append _ _
  | emits => exact (emit_txs ..).symm ▸ List.prefix_rfl
  | _ => exact List.prefix_rfl

theorem Moves.hostLog_prefix (hm : Moves e s t) : s.hostLog <+: t.hostLog := by
  cases hm with
  | closeEnds | succeeds | exhausts => exact List.prefix_append _ _
  | emits => exact (emit_hostLog ..).symm ▸ List.prefix_rfl
  | _ => exact List.prefix_rfl

theorem Moves.causeLog_prefix (hm : Moves e s t) : s.causeLog <+: t.causeLog := by
  cases hm with
  | closeEnds | retries | exhausts | expires | desyncs => exact List.prefix_append _ _
  | emits => exact (emit_causeLog ..).symm ▸ List.prefix_rfl
  | _ => exact List.prefix_rfl

/-- A step with a turn given, as the move of that turn. -/
theorem moves_of_step {rest : List Event} (hs : s.sched = e :: rest) (h : step s = .next t) :
    Moves e { s with sched := rest } t :=
  turn_moves ((step_of_sched hs).symm.trans h)

end Frames

/-! ### Observation -/

/-- A step that hands HOST no completion event is no observation point (R282). -/
theorem observation_eq_none {s t : State} (h : t.hostLog = s.hostLog) : observation s t = none := by
  simp [observation, completionOf, h]

theorem deviceTurn_of_topen {s : State} (b : Byte) (h : s.topen = true) :
    deviceTurn b s = .next (rxAppend b s) := if_pos h

end Sys2Proof.Machine
end

section
/-! The statements about the state as a whole (spec/10_state.md), settled. -/

namespace Sys2Proof.Proofs

open Machine

/-- Settles O49: with no turn given the state stays, and every move keeps the invariant. -/
theorem stepKeepsInvariant : Obligations.StepKeepsInvariant := by
  intro s t hi h
  obtain ⟨-, rfl⟩ | ⟨e, rest, -, hm⟩ := step_moves h
  · exact hi
  · exact hm.keeps_inv (hi.withSched rest)

/-- Settles O53: each clause reads off who writes that part of the state. -/
theorem accessDiscipline : Obligations.AccessDiscipline := by
  intro s t e rest hs h
  have hm := moves_of_step hs h
  refine ⟨fun hne => hm.writer_or_txs_kept.resolve_right hne, fun h0 h1 => ?rises,
    fun h1 h0 => ?falls, fun hne => hm.reader_or_open_or_readerPart_kept.resolve_right fun k => ?reader,
    fun hne => hm.reader_or_open_or_rxq_prefix.resolve_right hne, fun he => ?suffix,
    fun hne => hm.host_or_hostPart_kept.resolve_right fun k => ?host,
    fun hne => hm.host_or_writer_or_commandPart_kept.resolve_right fun k => ?command,
    fun h1 h0 => ?stop⟩
  case rises =>
    obtain hk | ⟨-, hf⟩ | ⟨he, -⟩ := hm.ack_cases
    · simp [hk, h0] at h1
    · simp [hf] at h1
    · exact he
  case falls =>
    obtain hk | ⟨he, -⟩ | ⟨-, ht⟩ := hm.ack_cases
    · simp [hk, h1] at h0
    · exact he
    · simp [ht] at h0
  case reader =>
    simp [k.outDist, k.outVel, k.outMair, k.outMmat, k.ract, k.rxbuf, k.rxcnt, k.rstate] at hne
  case suffix =>
    subst he
    exact hm.rxq_suffix
  case host => simp [k.lstate, k.topen, k.stop, k.opc, k.pay, k.txframe] at hne
  case command => simp [k.cstate, k.rc, k.cresult] at hne
  case stop =>
    obtain hk | he | ht := hm.stop_cases
    · simp [hk, h1] at h0
    · exact he
    · simp [ht] at h0

/-- Settles O54: with no turn given nothing changes, and every move only appends to the logs. -/
theorem logsOnlyGrow : Obligations.LogsOnlyGrow := by
  intro s t h
  obtain ⟨-, rfl⟩ | ⟨e, rest, hs, hm⟩ := step_moves h
  · exact ⟨List.prefix_rfl, List.prefix_rfl, List.prefix_rfl,
      fun _ => ⟨List.prefix_rfl, List.prefix_rfl, List.prefix_rfl, List.prefix_rfl⟩⟩
  · refine ⟨hm.txs_prefix, hm.hostLog_prefix, hm.causeLog_prefix, fun hno => ?_⟩
    obtain ⟨q, rfl⟩ | hg := hm.open_or_channelsGrow
    · exact absurd hs (hno q rest)
    · exact ⟨hg.outDist, hg.outVel, hg.outMair, hg.outMmat⟩

/-- Settles O55: outside a request, of the moves that write RC open leaves it no value, and the
timeout step takes one off a budget that is not 0. -/
theorem retryBudgetOnlyCountsDown : Obligations.RetryBudgetOnlyCountsDown := by
  intro s t e rest n m hs hreq h hn hm
  obtain hk | ho | ⟨o, p, k, he⟩ | ⟨he, hw, ha, hc, n', h0, hn', hm'⟩ := (moves_of_step hs h).rc_cases
  · exact .inl (Reg.holding_inj.mp (hm.symm.trans (hk.trans hn)))
  · exact absurd (ho.symm.trans hm) (Reg.noValue_ne_holding _ _)
  · exact absurd he (hreq o p k)
  · obtain rfl : n' = n := Reg.holding_inj.mp (hn'.symm.trans hn)
    obtain rfl : m = n' - 1 := Reg.holding_inj.mp (hm.symm.trans hm')
    exact .inr ⟨he, hw, ha, hc, (retryCount_sub_one h0).symm⟩

/-- Settles O27: DEVICE writes RXQ alone, and no kind of observation shows RXQ. -/
theorem deviceAppendsOneByte : Obligations.DeviceAppendsOneByte := by
  intro s b rest hs ht
  refine ⟨?_, observation_eq_none rfl, fun c => ?_⟩
  · exact (step_of_sched hs).trans (deviceTurn_of_topen b ht)
  · cases c <;> rfl

end Sys2Proof.Proofs
end

section
/-! SUPPORT. The receive window and the transmit log: the window that holds a given list of
bytes, READER's turns that fill it and that dispatch it, and what a move appends to TXS. -/

namespace Sys2Proof.Machine

/-! ### The window that holds sixteen given bytes -/

theorem windowOf_toList {f : List Byte} (h : f.length = 16) :
    (windowOf f).toList = f.map .holding := by
  apply List.ext_getElem
  · simp [h]
  · intro i hi _
    have hf : i < f.length := by simpa [h] using hi
    simp [windowOf, hf]

theorem eq_windowOf_iff {w : Vector (Reg Byte) 16} {f : List Byte} (h : f.length = 16) :
    w = windowOf f ↔ w.toList = f.map .holding := by
  rw [← windowOf_toList h, Vector.toList_inj]

theorem readWindow_of_windowOf {s : State} {f : List Byte} (hf : f.length = 16)
    (hb : s.rxbuf = windowOf f) : readWindow s = .ok f :=
  readRegs_ok.mpr ((eq_windowOf_iff hf).mp hb)

/-- A byte written just after the bytes `done` extends them by one. -/
theorem take_toList_set_holding {w : Vector (Reg Byte) 16} {n : Nat} {done : List Byte}
    (hw : w.toList.take n = done.map .holding) (b : Byte) (hn : n < 16) :
    (w.set n (.holding b) hn).toList.take (n + 1) = (done ++ [b]).map .holding := by
  have hlen : n < w.toList.length := by simpa using hn
  rw [Vector.toList_set, List.take_add_one, List.take_set_of_le (Nat.le_refl n), hw,
    List.getElem?_set_self hlen, List.map_append]
  rfl

/-! ### READER's turns that fill the window (R172) -/

section Collect

variable {s : State} {rest : List Event} {q : List Byte}

theorem step_collects {b : Byte} (hs : s.sched = .reader :: rest) (hl : s.lstate ≠ .closed)
    (hr : s.rstate = .run) (ha : s.ract = true) (hc : s.rxcnt.val < 16) (hq : s.rxq = b :: q) :
    step s = .next (collectByte b { s with sched := rest, rxq := q } hc) := by
  rw [step_of_sched hs]
  simp [turn, readerTurn, readerCollect, hl, hr, ha, hc, hq]

/-- Induction on the bytes still to come, `done` being those that the open window holds already. -/
theorem runSteps_collects {done l : List Byte} (hs : s.sched = List.replicate l.length .reader ++ rest)
    (hl : s.lstate ≠ .closed) (hr : s.rstate = .run) (ha : s.ract = true) (hq : s.rxq = l ++ q)
    (hdone : s.rxbuf.toList.take s.rxcnt.val = done.map .holding)
    (hcnt : s.rxcnt.val + l.length = 16) :
    runSteps l.length s =
      .next { s with sched := rest, rxq := q, rxbuf := windowOf (done ++ l), rxcnt := 16 } := by
  induction l generalizing s done with
  | nil =>
    obtain rfl : s.sched = rest := hs
    obtain rfl : s.rxq = q := hq
    have hfull : s.rxcnt = 16 := Fin.ext hcnt
    have hbuf : s.rxbuf.toList = done.map .holding := by
      rwa [List.take_of_length_le (by simp [hfull])] at hdone
    have hlen : done.length = 16 := by simpa using (congrArg List.length hbuf).symm
    rw [List.append_nil, ← (eq_windowOf_iff hlen).mpr hbuf, ← hfull]
    rfl
  | cons b l ih =>
    rw [List.length_cons] at hcnt
    have hc : s.rxcnt.val < 16 := by omega
    rw [List.append_cons]
    refine (runSteps_succ_of_next (step_collects hs hl hr ha hc hq)).trans ?_
    exact ih rfl hl hr ha rfl (take_toList_set_holding hdone b hc)
      ((Nat.succ_add_eq_add_succ _ _).trans hcnt)

end Collect

/-! ### READER's turn on a full window (R174) -/

/-- Only sixteen bytes decode to an instruction (R176). -/
theorem length_of_decode_window {f : List Byte} {i : Instr} (h : decode (.window f) = .ok i) :
    f.length = 16 := by
  obtain ⟨st, p, ⟨rfl, -⟩ | ⟨rfl, -⟩ | ⟨rfl, -⟩ | ⟨c, rfl, -⟩⟩ := decodeWindow_ok h <;>
    exact rspFrame_length ..

theorem dispatchWindow_of_decode {f : List Byte} {i : Instr} (h : decode (.window f) = .ok i)
    (s : State) : dispatchWindow f s = exec i s := by
  simp [dispatchWindow, h]

theorem exists_dispatchWindow_eq_next (f : List Byte) (s : State) :
    ∃ t, dispatchWindow f s = .next t := by
  obtain ⟨ch, p, h⟩ | h | ⟨c, -, h⟩ := dispatchWindow_cases f s <;> exact ⟨_, h⟩

theorem readerTurn_of_full {s : State} {f : List Byte} (hl : s.lstate ≠ .closed)
    (hr : s.rstate = .run) (ha : s.ract = true) (hc : s.rxcnt = 16) (hf : f.length = 16)
    (hb : s.rxbuf = windowOf f) : readerTurn s = andThen closeWindow (dispatchWindow f s) := by
  simp [readerTurn, readerParse, readWindow_of_windowOf hf hb, hl, hr, ha, hc]

/-! ### HOST's request -/

theorem hostRequest_of_decode {o : Opcode} {p : Payload4} {n : RetryCount} {i : Instr}
    (h : decode (.request o p n) = .ok i) (s : State) : hostRequest o p n s = exec i s := by
  simp [hostRequest, h]

/-! ### The transmit log -/

/-- Only WRITER's send step writes TXS: it appends TXFRAME (R233). -/
theorem Moves.txs_cases {e : Event} {s t : State} (hm : Moves e s t) :
    t.txs = s.txs ∨
      (s.cstate = .send ∧ ∃ f, s.txframe = .holding f ∧ t.txs = s.txs ++ f.toList) := by
  cases hm with
  | sends f _ hc hf => exact .inr ⟨hc, f, hf, rfl⟩
  | emits => exact .inl (emit_txs ..)
  | _ => exact .inl rfl

/-- While a command is in flight, TXFRAME holds no other frame than a framer output (R33). -/
theorem StateInv.txframe_encoded {s : State} {f : Vector Byte 8} (h : StateInv s)
    (hc : s.cstate ≠ .idle) (hf : s.txframe = .holding f) : ∃ o p, f = encodeCommand o p := by
  obtain ⟨o, p, -, -, -, -, hx⟩ := h.latched hc
  exact ⟨o, p, Reg.holding_inj.mp (hf.symm.trans hx)⟩

theorem TxFramed.of_txs_eq {s t : State} (h : TxFramed s) (ht : t.txs = s.txs) : TxFramed t := by
  obtain ⟨frames, hs⟩ := h
  exact ⟨frames, ht.trans hs⟩

theorem TxFramed.of_txs_append {s t : State} (h : TxFramed s) {o : Opcode} {p : Payload4}
    (ht : t.txs = s.txs ++ (encodeCommand o p).toList) : TxFramed t := by
  obtain ⟨frames, hs⟩ := h
  exact ⟨frames ++ [(o, p)], by simp [ht, hs, List.flatMap_append]⟩

/-- Every move from a state with the invariant appends nothing, or one framer output, to TXS. -/
theorem Moves.keeps_txFramed {e : Event} {s t : State} (hm : Moves e s t) (hi : StateInv s)
    (h : TxFramed s) : TxFramed t := by
  obtain hk | ⟨hc, f, hf, ht⟩ := hm.txs_cases
  · exact h.of_txs_eq hk
  · obtain ⟨o, p, rfl⟩ := hi.txframe_encoded (hc.trans_ne nofun) hf
    exact h.of_txs_append ht

end Sys2Proof.Machine
end

section
/-! The statements about steps, the receive window and the transmit log (spec/20_memory.md), settled. -/

namespace Sys2Proof.Proofs

open Machine

/-- Settles O43: the run that fills the window, from one that holds no byte yet. -/
theorem sixteenCollectsFillTheWindow : Obligations.SixteenCollectsFillTheWindow := by
  intro s l q rest hs hl hr ha hc hlen hq
  have hrun := runSteps_collects (s := s) (done := []) (l := l) (q := q) (rest := rest)
    (by rw [hlen]; exact hs) hl hr ha hq (by simp [hc]) (by simp [hc, hlen])
  rwa [hlen] at hrun

/-- Settles O52: with no turn given TXS stays, and every move keeps it a sequence of frames. -/
theorem stepKeepsTransmitLogFramed : Obligations.StepKeepsTransmitLogFramed := by
  intro s t hi hx h
  obtain ⟨-, rfl⟩ | ⟨e, rest, -, hm⟩ := step_moves h
  · exact hx
  · exact hm.keeps_txFramed (hi.withSched rest) (hx.of_txs_eq rfl)

/-- Settles O21: both agents hand the decoded instruction to exec; a window's dispatch always has a
next state, in which READER's turn then closes the window. -/
theorem stepRunsTheDecodedInstruction : Obligations.StepRunsTheDecodedInstruction := by
  constructor
  · intro s o p n rest i hs hd
    exact (step_of_sched hs).trans (hostRequest_of_decode hd _)
  · intro s f rest i hs hl hr ha hc hb hd
    obtain ⟨t, ht⟩ := exists_dispatchWindow_eq_next f { s with sched := rest }
    refine ⟨t, (dispatchWindow_of_decode hd _).symm.trans ht, ?_⟩
    calc step s = readerTurn { s with sched := rest } := step_of_sched hs
      _ = andThen closeWindow (dispatchWindow f { s with sched := rest }) :=
        readerTurn_of_full hl hr ha hc (length_of_decode_window hd) hb
      _ = .next (closeWindow t) := by rw [ht, andThen_next]

end Sys2Proof.Proofs
end

section
/-! SUPPORT. Encodings: the numbers and flag bits that payload bytes stand for, the word views of a
frame, the framer, and each row's code unit with what the decoder makes of it. -/

namespace Sys2Proof.Machine

/-! ### Big-endian numbers (R12, R121) -/

@[simp] theorem uint_nil : uint [] = 0 := rfl

@[simp] theorem uint_cons (b : Byte) (bs : List Byte) :
    uint (b :: bs) = b.toNat * 256 ^ bs.length + uint bs := rfl

theorem uint_lt (s : List Byte) : uint s < 256 ^ s.length := by
  induction s with
  | nil => simp
  | cons b bs ih =>
    calc b.toNat * 256 ^ bs.length + uint bs
        < (b.toNat + 1) * 256 ^ bs.length := by rw [Nat.succ_mul]; omega
      _ ≤ 256 * 256 ^ bs.length := Nat.mul_le_mul_right _ b.isLt
      _ = 256 ^ (b :: bs).length := (Nat.pow_succ' ..).symm

/-- Inverting every byte of `s` takes its number from the greatest one of its length. -/
theorem uint_add_invSum (s : List Byte) : uint s + invSum s + 1 = 256 ^ s.length := by
  induction s with
  | nil => rfl
  | cons b bs ih =>
    have hb : b.toNat + (255 - b.toNat) = 255 := by have := b.isLt; omega
    calc uint (b :: bs) + invSum (b :: bs) + 1
        = (b.toNat + (255 - b.toNat)) * 256 ^ bs.length + (uint bs + invSum bs + 1) := by
          simp only [uint, invSum]; ring
      _ = 256 ^ (b :: bs).length := by rw [hb, ih, List.length_cons, Nat.pow_succ']; ring

theorem uint_singleton (b : Byte) : uint [b] = b.toNat := by simp

/-- The byte at offset `k` of a big-endian number (R12). -/
theorem uint_div_mod {s : List Byte} {k : Nat} (h : k < s.length) :
    uint s / 256 ^ (s.length - 1 - k) % 256 = s[k].toNat := by
  induction s generalizing k with
  | nil => simp at h
  | cons b bs ih =>
    cases k with
    | zero =>
      calc (b.toNat * 256 ^ bs.length + uint bs) / 256 ^ bs.length % 256
          = (b.toNat + uint bs / 256 ^ bs.length) % 256 := by
            rw [Nat.mul_comm, Nat.mul_add_div (Nat.pow_pos (by decide))]
        _ = b.toNat := by rw [Nat.div_eq_of_lt (uint_lt bs), Nat.add_zero, Nat.mod_eq_of_lt b.isLt]
    | succ k =>
      have hk : k < bs.length := Nat.lt_of_succ_lt_succ h
      obtain ⟨m, hm⟩ : ∃ m, m = bs.length - 1 - k := ⟨_, rfl⟩
      have hw : b.toNat * 256 ^ bs.length = 256 ^ m * (256 * (b.toNat * 256 ^ k)) := by
        rw [show bs.length = m + k + 1 by omega]; ring
      calc (b.toNat * 256 ^ bs.length + uint bs) / 256 ^ (bs.length - (k + 1)) % 256
          = (256 * (b.toNat * 256 ^ k) + uint bs / 256 ^ m) % 256 := by
            rw [hw, show bs.length - (k + 1) = m by omega, Nat.mul_add_div (Nat.pow_pos (by decide))]
        _ = bs[k].toNat := by rw [Nat.mul_add_mod, hm, ih hk]

/-! ### The signed decoder (R121, R122) -/

theorem sint_cons (b : Byte) (bs : List Byte) : sint (b :: bs) = .ok (sintOf b bs) := rfl

theorem sintOf_of_lt {b : Byte} (h : b.toNat < 128) (bs : List Byte) :
    sintOf b bs = uint (b :: bs) := if_pos h

theorem sintOf_of_ge {b : Byte} (h : 128 ≤ b.toNat) (bs : List Byte) :
    sintOf b bs = uint (b :: bs) - 256 ^ (bs.length + 1) := by
  have hs : (uint (b :: bs) + invSum (b :: bs) + 1 : Int) = 256 ^ (bs.length + 1) := by
    exact_mod_cast uint_add_invSum (b :: bs)
  rw [sintOf, if_neg (by omega)]
  omega

/-- The range of the signed decoder (R123). -/
theorem sintOf_range (b : Byte) (bs : List Byte) {n : Nat} (hn : n = 8 * bs.length + 7) :
    -2 ^ n ≤ sintOf b bs ∧ sintOf b bs < 2 ^ n := by
  have hp : (2 : Int) ^ n = 128 * (256 ^ bs.length : Nat) := by
    rw [hn, pow_add, pow_mul]; push_cast; ring
  have hq : (256 : Int) ^ (bs.length + 1) = 256 * (256 ^ bs.length : Nat) := by
    push_cast; ring
  have hu := uint_lt bs
  have hv := uint_lt (b :: bs)
  rw [hp]
  obtain h | h := Nat.lt_or_ge b.toNat 128
  · have hb : b.toNat * 256 ^ bs.length ≤ 127 * 256 ^ bs.length :=
      Nat.mul_le_mul_right _ (Nat.le_of_lt_succ h)
    rw [sintOf_of_lt h, uint_cons]
    omega
  · have hb : 128 * 256 ^ bs.length ≤ b.toNat * 256 ^ bs.length := Nat.mul_le_mul_right _ h
    rw [List.length_cons, Nat.pow_succ'] at hv
    rw [sintOf_of_ge h, hq]
    rw [uint_cons] at hv ⊢
    omega

/-! ### The flag bits (R80) -/

/-- A bit read through its mask. -/
theorem getLsbD_iff_and_twoPow {w : Nat} (x : BitVec w) {i : Nat} (hi : i < w) :
    x.getLsbD i = true ↔ x &&& BitVec.twoPow w i ≠ 0 := by
  have h0 : BitVec.twoPow w i ≠ 0 := fun h => by
    have := congrArg (·.getLsbD i) h
    simp [hi] at this
  rw [BitVec.and_twoPow]
  split <;> simp_all

theorem velocityOverflowFlag_iff (p : Payload12) :
    velocityOverflowFlag p = true ↔ p.p9 &&& 0x08 ≠ 0 :=
  getLsbD_iff_and_twoPow p.p9 (i := 3) (by decide)

theorem laserStateFlag_iff (p : Payload12) : laserStateFlag p = true ↔ p.p10 &&& 0x01 ≠ 0 :=
  getLsbD_iff_and_twoPow p.p10 (i := 0) (by decide)

/-- The inverted flag: set where the bit is clear. -/
theorem smallSignalLevelFlag_iff (p : Payload12) :
    smallSignalLevelFlag p = true ↔ p.p10 &&& 0x08 = 0 := by
  have hbit := getLsbD_iff_and_twoPow p.p10 (i := 3) (by decide)
  rw [smallSignalLevelFlag, Bool.not_eq_true', Bool.eq_false_iff, ne_eq, hbit]
  exact not_not

/-! ### The word views (R73) -/

theorem toNat_append_byte {w : Nat} (x : BitVec w) (b : Byte) :
    (x ++ b).toNat = x.toNat * 256 + b.toNat := by
  rw [BitVec.toNat_append, ← Nat.shiftLeft_add_eq_or_of_lt b.isLt, Nat.shiftLeft_eq]

theorem toList_eq_ofFn {α : Type} {n : Nat} (f : Vector α n) :
    f.toList = List.ofFn fun k : Fin n => f[k] :=
  List.ext_getElem (by simp) fun k _ _ => by simp

/-- The word view of a CMD8 frame is its bytes' big-endian number. -/
theorem cmdWord_toNat (f : Vector Byte 8) : (cmdWord f).toNat = uint f.toList := by
  simp [cmdWord, toNat_append_byte, toList_eq_ofFn, List.ofFn_succ, Nat.add_mul, Nat.mul_assoc,
    Nat.add_assoc]

/-- The word view of an RSP16 frame is its bytes' big-endian number. -/
theorem rspWord_toNat (f : Vector Byte 16) : (rspWord f).toNat = uint f.toList := by
  simp [rspWord, toNat_append_byte, toList_eq_ofFn, List.ofFn_succ, Nat.add_mul, Nat.mul_assoc,
    Nat.add_assoc]

/-- The byte at offset `k` of a word that is the big-endian number of a frame. -/
theorem extractLsb'_byte {w n : Nat} {x : BitVec w} {f : Vector Byte n}
    (hx : x.toNat = uint f.toList) {k : Nat} (h : k < n) :
    x.extractLsb' (8 * (n - 1 - k)) 8 = f[k] := by
  apply BitVec.eq_of_toNat_eq
  have hf := uint_div_mod (s := f.toList) (k := k) (by simpa using h)
  simpa [hx, Nat.shiftRight_eq_div_pow, Nat.pow_mul] using hf

/-- A 16-bit field of a word is its two bytes joined, the upper one first (R53). -/
theorem extractLsb'_opcode {w : Nat} (x : BitVec w) (n : Nat) :
    x.extractLsb' n 16 = joinOpcode (x.extractLsb' (n + 8) 8) (x.extractLsb' n 8) :=
  (BitVec.extractLsb'_append_extractLsb'_eq_extractLsb' (len₁ := 8) (len₂ := 8) rfl).symm

/-! ### The framer (R71, R141) -/

theorem joinOpcode_toNat (hi lo : Byte) :
    (joinOpcode hi lo).toNat = hi.toNat * 256 + lo.toNat := toNat_append_byte hi lo

theorem encodeCommand_toList (o : Opcode) (p : Payload4) :
    (encodeCommand o p).toList = cmdBody o p ++ [crc8 (cmdBody o p)] := rfl

theorem parseCmd8_encodeCommand (o : Opcode) (p : Payload4) :
    parseCmd8 (encodeCommand o p).toList = some (o, p) := by
  simp [encodeCommand_toList, cmdBody, payBytes, parseCmd8]

/-! ### The command rows -/

/-- A command's request in OPEN and IDLE latches its operands (R231). -/
theorem exec_request_latches (c : Command) (p : Payload4) (n : RetryCount) {s : State}
    (hl : s.lstate = .opened) (hc : s.cstate = .idle) :
    exec (c.request p n) s = .next (latchCommand c.opcode p n s) :=
  (exec_request c p n s).trans (requestCommand_eq_next.mpr ⟨hl, hc, rfl⟩)

end Sys2Proof.Machine

namespace Sys2Proof

open Machine

/-! ### The rows, by the shape of their code unit -/

theorem encode_request (c : Command) (p : Payload4) (n : RetryCount) :
    encode (c.request p n) = .request c.opcode p n := by
  cases c <;> rfl

theorem encode_ackFrame (c : Command) (st : Byte) (p : Payload12) :
    encode (c.ackFrame st p) = .window (rspFrame st c.opcode p) := by
  cases c <;> rfl

/-- The rows of R74 to R76, by the shape of their code unit. -/
theorem Instr.row_cases (i : Instr) :
    (∃ (c : Command) (p : Payload4) (n : RetryCount), i = c.request p n) ∨
    (∃ (c : Command) (st : Byte) (p : Payload12), i = c.ackFrame st p) ∨
    (∃ st p, i = .distData st p) ∨ (∃ st p, i = .velData st p) ∨ ∃ st p, i = .meteoData st p := by
  cases i with
  | distOn p n => exact .inl ⟨.distOn, p, n, rfl⟩
  | distOff p n => exact .inl ⟨.distOff, p, n, rfl⟩
  | velOn p n => exact .inl ⟨.velOn, p, n, rfl⟩
  | velOff p n => exact .inl ⟨.velOff, p, n, rfl⟩
  | stopAll p n => exact .inl ⟨.stopAll, p, n, rfl⟩
  | clrSmallSignal p n => exact .inl ⟨.clrSmallSignal, p, n, rfl⟩
  | clrVelOverflow p n => exact .inl ⟨.clrVelOverflow, p, n, rfl⟩
  | clrExtCapture p n => exact .inl ⟨.clrExtCapture, p, n, rfl⟩
  | meteoOn p n => exact .inl ⟨.meteoOn, p, n, rfl⟩
  | meteoOff p n => exact .inl ⟨.meteoOff, p, n, rfl⟩
  | resetOrigin p n => exact .inl ⟨.resetOrigin, p, n, rfl⟩
  | ackDistOn st p => exact .inr (.inl ⟨.distOn, st, p, rfl⟩)
  | ackDistOff st p => exact .inr (.inl ⟨.distOff, st, p, rfl⟩)
  | ackVelOn st p => exact .inr (.inl ⟨.velOn, st, p, rfl⟩)
  | ackVelOff st p => exact .inr (.inl ⟨.velOff, st, p, rfl⟩)
  | ackStopAll st p => exact .inr (.inl ⟨.stopAll, st, p, rfl⟩)
  | ackClrSmallSignal st p => exact .inr (.inl ⟨.clrSmallSignal, st, p, rfl⟩)
  | ackClrVelOverflow st p => exact .inr (.inl ⟨.clrVelOverflow, st, p, rfl⟩)
  | ackClrExtCapture st p => exact .inr (.inl ⟨.clrExtCapture, st, p, rfl⟩)
  | ackMeteoOn st p => exact .inr (.inl ⟨.meteoOn, st, p, rfl⟩)
  | ackMeteoOff st p => exact .inr (.inl ⟨.meteoOff, st, p, rfl⟩)
  | ackResetOrigin st p => exact .inr (.inl ⟨.resetOrigin, st, p, rfl⟩)
  | distData st p => exact .inr (.inr (.inl ⟨st, p, rfl⟩))
  | velData st p => exact .inr (.inr (.inr (.inl ⟨st, p, rfl⟩)))
  | meteoData st p => exact .inr (.inr (.inr (.inr ⟨st, p, rfl⟩)))

/-! ### The decoder on a request and on a whole frame -/

theorem decode_request (c : Command) (p : Payload4) (n : RetryCount) :
    decode (.request c.opcode p n) = .ok (c.request p n) := by
  simp [decode]

/-- The parser gives back the opcode and the payload a frame is made with (R175). -/
@[simp] theorem tryParseInbound_rspFrame (st : Byte) (o : Opcode) (p : Payload12) :
    tryParseInbound (rspFrame st o p) = some ⟨o, p⟩ := by
  simp [tryParseInbound, rspFrame, rspBody, payloadBytes]

@[simp] theorem rspFrame_head? (st : Byte) (o : Opcode) (p : Payload12) :
    (rspFrame st o p).head? = some st := rfl

theorem decode_rspFrame_dist (st : Byte) (p : Payload12) :
    decode (.window (rspFrame st distDataOpcode p)) = .ok (.distData st p) := by
  simp [decode, decodeWindow, rspFrame_length]

theorem decode_rspFrame_vel (st : Byte) (p : Payload12) :
    decode (.window (rspFrame st velDataOpcode p)) = .ok (.velData st p) := by
  simp [decode, decodeWindow, rspFrame_length]

theorem decode_rspFrame_meteo (st : Byte) (p : Payload12) :
    decode (.window (rspFrame st meteoDataOpcode p)) = .ok (.meteoData st p) := by
  simp [decode, decodeWindow, rspFrame_length]

theorem decode_rspFrame_command (c : Command) (st : Byte) (p : Payload12) :
    decode (.window (rspFrame st c.opcode p)) = .ok (c.ackFrame st p) := by
  simp [decode, decodeWindow, rspFrame_length]

/-- Only sixteen bytes parse (R176). -/
theorem tryParseInbound_of_length_ne {f : List Byte} (h : f.length ≠ Config.rxFrameLen) :
    tryParseInbound f = none := by
  cases hf : tryParseInbound f with
  | none => rfl
  | some fr =>
    obtain ⟨st, rfl⟩ := tryParseInbound_eq_some hf
    exact absurd (rspFrame_length ..) h

end Sys2Proof
end

section
/-! The statements about encodings (spec/30_encoding.md), settled. -/

namespace Sys2Proof.Proofs

open Machine

/-- Settles O11: the row's code unit, then the decoder on that request or frame. -/
theorem decodeOfEncodeIsIdentity : Obligations.DecodeOfEncodeIsIdentity := by
  intro i
  obtain ⟨c, p, n, rfl⟩ | ⟨c, st, p, rfl⟩ | ⟨st, p, rfl⟩ | ⟨st, p, rfl⟩ | ⟨st, p, rfl⟩ := i.row_cases
  · rw [encode_request, decode_request]
  · rw [encode_ackFrame, decode_rspFrame_command]
  · exact decode_rspFrame_dist st p
  · exact decode_rspFrame_vel st p
  · exact decode_rspFrame_meteo st p

/-- Settles O9: the range of each signed field is that of its number of bytes. -/
theorem viewFieldsOfEveryPayload : Obligations.ViewFieldsOfEveryPayload := by
  intro p
  refine ⟨sint_cons .., sint_cons .., sint_cons .., sintOf_range _ _ rfl, sintOf_range _ _ rfl, ?temp,
    velocityOverflowFlag_iff p, laserStateFlag_iff p, smallSignalLevelFlag_iff p, uint_singleton _,
    rfl, rfl, rfl, rfl, uint_singleton _, uint_singleton _, uint_singleton _, uint_singleton _⟩
  case temp =>
    obtain ⟨hlo, hhi⟩ : -2 ^ 15 ≤ (meteoView p).tempRaw ∧ (meteoView p).tempRaw < 2 ^ 15 :=
      sintOf_range p.p1 [p.p2] rfl
    omega

/-- Settles O12: what decodes is a command's request, or the frame of its row. -/
theorem encodeOfDecodeIsIdentity : Obligations.EncodeOfDecodeIsIdentity := by
  intro u i h
  cases u with
  | request o p n =>
    obtain ⟨c, rfl, hd⟩ | ⟨-, hd⟩ := decode_request_cases o p n
    · cases hd.symm.trans h
      exact encode_request c p n
    · cases hd.symm.trans h
  | window f =>
    obtain ⟨st, p, ⟨rfl, rfl⟩ | ⟨rfl, rfl⟩ | ⟨rfl, rfl⟩ | ⟨c, rfl, rfl⟩⟩ := decodeWindow_ok h
    · rfl
    · rfl
    · rfl
    · exact encode_ackFrame c st p

/-- Settles O17: a word view is the big-endian number of its frame, which the bytes at offsets 1 and 2
enter side by side. -/
theorem frameWordFields : Obligations.FrameWordFields := by
  have cmdByte (f : Vector Byte 8) (k : Nat) (h : k < 8) := extractLsb'_byte (cmdWord_toNat f) h
  have rspByte (f : Vector Byte 16) (k : Nat) (h : k < 16) := extractLsb'_byte (rspWord_toNat f) h
  refine ⟨cmdByte, fun f => ?_, rspByte, fun f => ?_⟩
  · rw [extractLsb'_opcode, cmdByte f 1 (by decide), cmdByte f 2 (by decide)]
  · rw [extractLsb'_opcode, rspByte f 1 (by decide), rspByte f 2 (by decide)]

/-- Settles O10: below 0x80 the signed decoder reads the plain number, from there on 2^16 less. -/
theorem pressureReadingsAgreeBelow32768 : Obligations.PressureReadingsAgreeBelow32768 := by
  intro p
  refine ⟨?unsigned, sint_cons .., fun h => sintOf_of_lt h _, fun h => ?above, ?reading⟩
  case unsigned => simp [pressRaw]
  case above => simpa [pressRaw] using sintOf_of_ge h [p.p7]
  case reading =>
    cases hs : Config.pressureSigned <;> simp [meteoView, hs]

/-- Settles O13: the two requests are the opcodes of STOP_ALL and RESET_ORIGIN, and the two windows
are whole frames, their last byte the checksum. -/
theorem specWordsDecodeToTheirRows : Obligations.SpecWordsDecodeToTheirRows := by
  refine ⟨decode_request .stopAll .., decode_request .resetOrigin .., ?distex, ?ackDistOn⟩
  case distex =>
    exact (congrArg (decode <| .window ·) (by decide +kernel)).trans (decode_rspFrame_dist ..)
  case ackDistOn =>
    exact (congrArg (decode <| .window ·) (by decide +kernel)).trans
      (decode_rspFrame_command .distOn ..)

/-- Settles O16: the frame is its first seven bytes and their checksum. -/
theorem framerOutput : Obligations.FramerOutput := by
  intro o p
  refine ⟨rfl, ?opcode, rfl, rfl, ?residue, ?inbound, parseCmd8_encodeCommand o p⟩
  case opcode =>
    calc (hiByte o).toNat * 256 + (loByte o).toNat
        = (joinOpcode (hiByte o) (loByte o)).toNat := (joinOpcode_toNat ..).symm
      _ = o.toNat := by rw [joinOpcode_hi_lo]
  case residue =>
    rw [encodeCommand_toList]
    exact crc8_append_self _
  case inbound => exact tryParseInbound_of_length_ne (by simp [Config.rxFrameLen])

/-- Settles O18: each row is its command's request. -/
theorem commandsLatchTheirRequest : Obligations.CommandsLatchTheirRequest := by
  intro s p n hl hc
  have latches (c : Command) := exec_request_latches c p n hl hc
  exact ⟨latches .distOn, latches .distOff, latches .velOn, latches .velOff, latches .stopAll,
    latches .clrSmallSignal, latches .clrVelOverflow, latches .clrExtCapture, latches .meteoOn,
    latches .meteoOff, latches .resetOrigin⟩

end Sys2Proof.Proofs
end

section
/-! SUPPORT. The checksum as a linear map: the byte table T, what a change of one byte or of the
accumulator does to the result, and the parser's verdict as the residue. -/

namespace Sys2Proof.Machine

/-! ### The bit-serial loop is linear (R101, R102) -/

/-- One iteration, with the test of R101 read as the top bit. -/
theorem crcShift_eq (acc d : Byte) :
    crcShift acc d = acc <<< 1 ^^^ if (acc ^^^ d).getLsbD 7 then Config.crcPoly else 0 := by
  have htop : (acc ^^^ d).getLsbD 7 = true ↔ (acc ^^^ d) &&& 0x80 ≠ 0 :=
    getLsbD_iff_and_twoPow (acc ^^^ d) (i := 7) (by decide)
  simp only [crcShift, bne_iff_ne, htop]
  split
  · rfl
  · exact BitVec.xor_zero.symm

/-- The feedback mask of a sum of two test bits is the sum of their masks. -/
theorem feedback_xor (p q : Bool) (m : Byte) :
    (if p ^^ q then m else 0) = (if p then m else 0) ^^^ if q then m else 0 := by
  cases p <;> cases q <;> simp

theorem crcShift_xor (acc e d d' : Byte) :
    crcShift (acc ^^^ e) (d ^^^ d') = crcShift acc d ^^^ crcShift e d' := by
  have htest : (acc ^^^ e) ^^^ (d ^^^ d') = (acc ^^^ d) ^^^ (e ^^^ d') := by ac_rfl
  rw [crcShift_eq, crcShift_eq acc, crcShift_eq e, htest, BitVec.getLsbD_xor, feedback_xor,
    BitVec.shiftLeft_xor_distrib]
  ac_rfl

theorem crcRounds_xor (k : Nat) (acc e d d' : Byte) :
    crcRounds k (acc ^^^ e) (d ^^^ d') = crcRounds k acc d ^^^ crcRounds k e d' := by
  induction k generalizing acc e d d' with
  | zero => rfl
  | succ k ih => rw [crcRounds, crcShift_xor, BitVec.shiftLeft_xor_distrib, ih]; rfl

/-! ### The byte table (R103) -/

theorem crcT_xor (x y : Byte) : crcT (x ^^^ y) = crcT x ^^^ crcT y :=
  crcRounds_xor 8 x y 0 0

/-- The byte may be added to the accumulator first, because it alone would cancel itself. -/
theorem crcByte_eq_crcT (acc b : Byte) : crcByte acc b = crcT (acc ^^^ b) := by
  calc crcByte acc b
      = crcRounds 8 ((acc ^^^ b) ^^^ b) (0 ^^^ b) := by
        simp [crcByte]
    _ = crcT (acc ^^^ b) ^^^ crcByte b b := crcRounds_xor 8 _ _ _ _
    _ = crcT (acc ^^^ b) := by rw [crcByte_self]; exact BitVec.xor_zero

theorem crcTable_length : crcTable.length = 256 := by decide +kernel

/-- The printed table is T. -/
theorem crcTable_getElem? (x : Byte) : crcTable[x.toNat]? = some (crcT x) := by
  revert x; decide +kernel

theorem crcUpdate_eq_crcByte (acc b : Byte) : crcUpdate acc b = crcByte acc b := by
  rw [crcByte_eq_crcT, crcUpdate, List.getD_eq_getElem?_getD, crcTable_getElem?, Option.getD_some]

/-- T has no zero but at zero. -/
theorem crcT_eq_zero_iff (x : Byte) : crcT x = 0 ↔ x = 0 := by
  revert x; decide +kernel

theorem crcT_inj {x y : Byte} : crcT x = crcT y ↔ x = y := by
  rw [← BitVec.xor_eq_zero_iff, ← crcT_xor]
  exact (crcT_eq_zero_iff _).trans BitVec.xor_eq_zero_iff

/-! ### One byte changed, or the accumulator (R108) -/

theorem crcByte_inj_left {acc acc' b : Byte} : crcByte acc b = crcByte acc' b ↔ acc = acc' := by
  rw [crcByte_eq_crcT, crcByte_eq_crcT, crcT_inj, BitVec.xor_left_inj]

theorem crcByte_inj_right {acc b b' : Byte} : crcByte acc b = crcByte acc b' ↔ b = b' := by
  rw [crcByte_eq_crcT, crcByte_eq_crcT, crcT_inj, BitVec.xor_right_inj]

/-- Two accumulators never meet over the same bytes. -/
theorem crcFrom_inj {acc acc' : Byte} (s : List Byte) :
    crcFrom acc s = crcFrom acc' s ↔ acc = acc' := by
  induction s generalizing acc acc' with
  | nil => rfl
  | cons b s ih => rw [crcFrom_cons, crcFrom_cons, ih, crcByte_inj_left]

/-- The checksum tells a byte from any other in its place. -/
theorem crcFrom_set_inj {acc b : Byte} {s : List Byte} {k : Nat} (hk : k < s.length) :
    crcFrom acc (s.set k b) = crcFrom acc s ↔ b = s[k] := by
  induction s generalizing acc k with
  | nil => simp at hk
  | cons x s ih =>
    cases k with
    | zero => exact (crcFrom_inj s).trans crcByte_inj_right
    | succ k => exact ih (Nat.lt_of_succ_lt_succ hk)

/-- A difference in the accumulator runs through T once for each byte that follows, whatever the
bytes are. -/
theorem crcFrom_xor (acc e : Byte) (s : List Byte) :
    crcFrom (acc ^^^ e) s = crcFrom acc s ^^^ crcT^[s.length] e := by
  induction s generalizing acc e with
  | nil => rfl
  | cons b s ih =>
    have hb : crcByte (acc ^^^ e) b = crcByte acc b ^^^ crcT e := by
      rw [crcByte_eq_crcT, crcByte_eq_crcT, ← crcT_xor]; congr 1; ac_rfl
    rw [crcFrom_cons, hb, ih]; rfl

/-- A difference in the first byte acts as one in the accumulator. -/
theorem crc8_cons_xor (b e : Byte) (s : List Byte) :
    crc8 ((b ^^^ e) :: s) = crc8 (b :: s) ^^^ crcT^[s.length + 1] e := by
  have hb : crcByte Config.crcInit (b ^^^ e) = crcByte Config.crcInit b ^^^ crcT e := by
    rw [crcByte_eq_crcT, crcByte_eq_crcT, ← crcT_xor, BitVec.xor_assoc]
  rw [crc8, crcFrom_cons, hb, crcFrom_xor]; rfl

/-! ### The residue (R107) -/

theorem crc8_append (s t : List Byte) : crc8 (s ++ t) = crcFrom (crc8 s) t :=
  crcFrom_append _ s t

theorem crc8_append_singleton_eq_zero_iff (s : List Byte) (c : Byte) :
    crc8 (s ++ [c]) = 0 ↔ crc8 s = c := by
  rw [crc8_append]
  exact (crcByte_eq_crcT _ _ ▸ crcT_eq_zero_iff _).trans BitVec.xor_eq_zero_iff

/-- Sixteen bytes are the first fifteen and the last. -/
theorem take_append_getD_of_length {f : List Byte} (h : f.length = 16) :
    f.take 15 ++ [f.getD 15 0] = f := by
  rw [List.getD_eq_getElem _ _ (by omega), List.take_append_getElem, List.take_of_length_le h.le]

end Sys2Proof.Machine

namespace Sys2Proof

open Machine

/-- A difference in START reaches the checksum through fifteen steps of T (R72, R108). -/
theorem crc8_rspBody_xor (st e : Byte) (o : Opcode) (p : Payload12) :
    crc8 (rspBody (st ^^^ e) o p) = crc8 (rspBody st o p) ^^^ crcT^[15] e :=
  crc8_cons_xor st e _

/-- Any fifteen bytes are the body of a frame (R72). -/
theorem exists_eq_rspBody {f : List Byte} (h : f.length = 15) : ∃ st o p, f = rspBody st o p := by
  match f, h with
  | [st, hi, lo, b0, b1, b2, b3, b4, b5, b6, b7, b8, b9, b10, b11], _ =>
    exact ⟨st, joinOpcode hi lo, ⟨b0, b1, b2, b3, b4, b5, b6, b7, b8, b9, b10, b11⟩,
      by simp [rspBody, payloadBytes]⟩

/-- The parser accepts the windows of sixteen bytes with residue zero (R107, R175 to R177). -/
theorem tryParseInbound_isSome_iff (f : List Byte) :
    (tryParseInbound f).isSome = true ↔ f.length = Config.rxFrameLen ∧ crc8 f = 0 := by
  constructor
  · intro h
    obtain ⟨fr, hfr⟩ := Option.isSome_iff_exists.mp h
    obtain ⟨st, rfl⟩ := tryParseInbound_eq_some hfr
    exact ⟨rspFrame_length .., crc8_rspFrame ..⟩
  · rintro ⟨hlen, hcrc⟩
    have hf := take_append_getD_of_length hlen
    obtain ⟨st, o, p, hbody⟩ :=
      exists_eq_rspBody (f := f.take 15) (by simp [hlen, Config.rxFrameLen])
    rw [← hf, crc8_append_singleton_eq_zero_iff] at hcrc
    have hframe : f = rspFrame st o p := by rw [← hf, ← hcrc, hbody]; rfl
    rw [hframe, tryParseInbound_rspFrame]
    rfl

end Sys2Proof
end

section
/-! The statements about the checksum (spec/40_crc8.md), settled. -/

namespace Sys2Proof.Proofs

open Machine

/-- Settles O1: the loop's step is T of accumulator and byte, and so is the table's. -/
theorem crc8MatchesByteTable : Obligations.Crc8MatchesByteTable := by
  have hT : crcByte = fun acc b => crcT (acc ^^^ b) := funext₂ crcByte_eq_crcT
  have hUpdate : crcUpdate = crcByte := funext₂ crcUpdate_eq_crcByte
  exact ⟨fun s => congrArg (s.foldl · 0xFF) hT, crcTable_length, crcTable_getElem?, crc8_append,
    fun s => congrArg (s.foldl · crcInit) hUpdate⟩

/-- Settles O2: the last byte cancels the checksum before it, and only that byte does. -/
theorem crc8ResidueIsZero : Obligations.Crc8ResidueIsZero := by
  refine ⟨crc8_append_self, fun f hlen => ⟨?residue, ?verdict⟩⟩
  case residue =>
    rw [← crc8_append_singleton_eq_zero_iff, take_append_getD_of_length hlen]
  case verdict =>
    exact (tryParseInbound_isSome_iff f).trans (and_iff_right hlen)

/-- Settles O3: with the new byte the residue is no longer that of the valid frame, zero. -/
theorem changedByteIsDetected : Obligations.ChangedByteIsDetected := by
  intro f k b hvalid hk hb
  obtain ⟨hlen, hcrc⟩ := (tryParseInbound_isSome_iff f).mp hvalid
  have hkf : k < f.length := hk.trans_eq hlen.symm
  rw [List.getD_eq_getElem _ _ hkf] at hb
  rw [← Option.not_isSome_iff_eq_none, tryParseInbound_isSome_iff]
  rintro ⟨-, hset⟩
  exact hb ((crcFrom_set_inj hkf).mp (hset.trans hcrc.symm))

/-- Settles O4: bit 7 of START, run through T by the fifteen bytes of the body, comes out as bit 0
of the checksum. -/
theorem twoBitBlindSpot : Obligations.TwoBitBlindSpot := by
  intro st mid crc fr h
  have hperiod : crcT^[15] 0x80 = 0x01 := by decide +kernel
  obtain ⟨st', hf⟩ := tryParseInbound_eq_some h
  obtain ⟨rfl, htail⟩ := List.cons.inj hf
  obtain ⟨rfl, hcrc⟩ := List.append_inj' htail rfl
  obtain rfl : crc = crc8 (rspBody st fr.opc fr.payload) := List.head_eq_of_cons_eq hcrc
  rw [← hperiod, ← crc8_rspBody_xor]
  exact tryParseInbound_rspFrame (st ^^^ 0x80) fr.opc fr.payload

end Sys2Proof.Proofs
end

section
/-! SUPPORT. The signed decoder at every width: the sign bit, the pattern of a byte sequence, and the
encoding R124 defines. -/

namespace Sys2Proof.Machine

/-! ### The sign bit (R122) -/

/-- The top bit decides the branch of R121. -/
theorem getLsbD_seven_iff (b : Byte) : b.getLsbD 7 = true ↔ 128 ≤ b.toNat := by
  rw [← BitVec.msb_eq_getLsbD_last (w := 8), BitVec.msb_eq_decide, decide_eq_true_iff]

theorem two_pow_eight_mul {R : Type} [CommSemiring R] (n : Nat) : (2 : R) ^ (8 * n) = 256 ^ n := by
  rw [pow_mul]
  norm_num

/-- The formula of R122: the sign bit counts with weight `-2^(8n)`. -/
theorem sintOf_eq_sub_signBit (b : Byte) (bs : List Byte) :
    sintOf b bs = (uint (b :: bs) : Int) -
      2 ^ (8 * (bs.length + 1)) * (if b.getLsbD 7 then 1 else 0) := by
  obtain h | h := Nat.lt_or_ge b.toNat 128
  · rw [if_neg (by rw [getLsbD_seven_iff]; omega), sintOf_of_lt h]
    simp
  · rw [if_pos ((getLsbD_seven_iff b).mpr h), sintOf_of_ge h, two_pow_eight_mul, mul_one]

/-! ### The pattern of a byte sequence (R122) -/

theorem uint_lt_two_pow {s : List Byte} {n : Nat} (hs : s.length = n) : uint s < 2 ^ (8 * n) := by
  rw [two_pow_eight_mul, ← hs]
  exact uint_lt s

/-- Big-endian numbers of one length tell every byte. -/
theorem uint_inj_of_length_eq {s s' : List Byte} (hl : s.length = s'.length)
    (h : uint s = uint s') : s = s' := by
  refine List.ext_getElem hl fun k hk hk' => BitVec.eq_of_toNat_eq ?_
  rw [← uint_div_mod hk, ← uint_div_mod hk', h, hl]

/-- The decoder is the two's-complement value of the pattern: both differ from the plain number by a
multiple of `2^(8n)` and lie in one range. -/
theorem sintOf_eq_toInt (b : Byte) (bs : List Byte) :
    sintOf b bs = (BitVec.ofNat (8 * (bs.length + 1)) (uint (b :: bs))).toInt := by
  obtain ⟨hlo, hhi⟩ := sintOf_range b bs (n := 8 * (bs.length + 1) - 1) (by omega)
  have hm : ((2 ^ (8 * (bs.length + 1)) : Nat) : Int) = 2 ^ (8 * (bs.length + 1)) := Nat.cast_pow 2 _
  calc sintOf b bs
      = (BitVec.ofInt (8 * (bs.length + 1)) (sintOf b bs)).toInt :=
        (BitVec.toInt_ofInt_eq_self (by omega) hlo hhi).symm
    _ = (sintOf b bs).bmod (2 ^ (8 * (bs.length + 1))) := BitVec.toInt_ofInt ..
    _ = (uint (b :: bs) : Int).bmod (2 ^ (8 * (bs.length + 1))) := by
        rw [sintOf_eq_sub_signBit, ← hm, Int.sub_mul_bmod_self_left]
    _ = (BitVec.ofNat (8 * (bs.length + 1)) (uint (b :: bs))).toInt :=
        (BitVec.toInt_ofNat ..).symm

/-- Every sequence of at least one byte decodes, to the value of its pattern. -/
theorem sint_eq_toInt {s : List Byte} {n : Nat} (hn : 1 ≤ n) (hs : s.length = n) :
    sint s = .ok (BitVec.ofNat (8 * n) (uint s)).toInt := by
  subst hs
  obtain ⟨b, bs, rfl⟩ := List.exists_cons_of_length_pos hn
  exact congrArg _ (sintOf_eq_toInt b bs)

/-- Sequences of one length with the same value have the same pattern, hence the same bytes. -/
theorem sint_inj_of_length {s s' : List Byte} {n : Nat} (hn : 1 ≤ n) (hs : s.length = n)
    (hs' : s'.length = n) (h : sint s = sint s') : s = s' := by
  rw [sint_eq_toInt hn hs, sint_eq_toInt hn hs'] at h
  have hpattern : BitVec.ofNat (8 * n) (uint s) = BitVec.ofNat (8 * n) (uint s') :=
    BitVec.eq_of_toInt_eq (Except.ok.inj h)
  have huint : uint s = uint s' := by
    simpa [Nat.mod_eq_of_lt, uint_lt_two_pow hs, uint_lt_two_pow hs'] using
      congrArg BitVec.toNat hpattern
  exact uint_inj_of_length_eq (hs.trans hs'.symm) huint

/-! ### The encoding (R124) -/

theorem encSigned_length (n : Nat) (v : Int) : (encSigned n v).length = n := by
  induction n with
  | zero => rfl
  | succ n ih => rw [encSigned, List.length_cons, ih]

/-- One more byte of the remainder: the digit above the `n` lower ones. -/
theorem emod_pow_256_succ (v : Int) (n : Nat) :
    v % 256 ^ (n + 1) = v / 256 ^ n % 256 * 256 ^ n + v % 256 ^ n := by
  rw [pow_succ, Int.emod_def, Int.emod_def (v / _), Int.emod_def v,
    Int.ediv_ediv_of_nonneg (by positivity)]
  ring

/-- The encoded bytes are those of the value mod `2^(8n)`. -/
theorem uint_encSigned (n : Nat) (v : Int) : (uint (encSigned n v) : Int) = v % 2 ^ (8 * n) := by
  rw [two_pow_eight_mul]
  induction n with
  | zero => simp [encSigned]
  | succ n ih =>
    have hbyte : ((BitVec.ofInt 8 (v / 256 ^ n)).toNat : Int) = v / 256 ^ n % 256 := by
      rw [BitVec.toNat_ofInt]
      omega
    rw [encSigned, uint_cons, encSigned_length, emod_pow_256_succ, ← hbyte, ← ih]
    push_cast
    rfl

/-- The encoding's pattern is the pattern of the value, which a value in range is read from. -/
theorem sint_encSigned {n : Nat} {v : Int} (hn : 1 ≤ n) (hlo : -2 ^ (8 * n - 1) ≤ v)
    (hhi : v < 2 ^ (8 * n - 1)) : sint (encSigned n v) = .ok v := by
  have hpattern : BitVec.ofNat (8 * n) (uint (encSigned n v)) = BitVec.ofInt (8 * n) v := by
    rw [← BitVec.ofInt_natCast, uint_encSigned]
    exact BitVec.eq_of_toNat_eq (by simp)
  rw [sint_eq_toInt hn (encSigned_length n v), hpattern,
    BitVec.toInt_ofInt_eq_self (by omega) hlo hhi]

/-! ### Leading bytes (R126) -/

theorem sint_zero_cons (s : List Byte) : sint (0x00 :: s) = .ok (uint s) := by
  rw [sint_cons, sintOf_of_lt (by decide), uint_cons]
  simp

theorem sint_ones_cons_cons {b : Byte} (h : 128 ≤ b.toNat) (bs : List Byte) :
    sint (0xFF :: b :: bs) = sint (b :: bs) := by
  have hff : (0xFF : Byte).toNat = 255 := rfl
  rw [sint_cons, sint_cons, sintOf_of_ge (by decide), sintOf_of_ge h, uint_cons 0xFF, hff,
    List.length_cons]
  congr 1
  push_cast
  ring

end Sys2Proof.Machine
end

section
/-! The statements about the signed decoder (spec/41_signed_decoder.md), settled. -/

namespace Sys2Proof.Proofs

open Machine

/-- Settles O5: by definition the sign extension is the wider pattern of the two's-complement value. -/
theorem signedDecoderIsTwosComplement : Obligations.SignedDecoderIsTwosComplement := by
  intro b bs
  refine ⟨congrArg _ (sintOf_eq_sub_signBit b bs), congrArg _ (sintOf_eq_toInt b bs), fun W _ => ?_⟩
  rw [sintOf_eq_toInt, BitVec.signExtend]

/-- Settles O6: the value in range comes from its own encoding. -/
theorem signedDecoderRange : Obligations.SignedDecoderRange := by
  intro N hN
  refine ⟨?range, fun s s' hs hs' => sint_inj_of_length hN hs hs', fun v hlo hhi => ?onto⟩
  case range =>
    rintro s rfl
    obtain ⟨b, bs, rfl⟩ := List.exists_cons_of_length_pos hN
    exact ⟨sintOf b bs, sint_cons b bs, sintOf_range b bs rfl⟩
  case onto => exact ⟨encSigned N v, encSigned_length N v, sint_encSigned hN hlo hhi⟩

/-- Settles O7: the encoding's length, number and value, each at every width. -/
theorem signedEncodingRoundTrips : Obligations.SignedEncodingRoundTrips :=
  fun n v hn hlo hhi => ⟨encSigned_length n v, uint_encSigned n v, sint_encSigned hn hlo hhi⟩

/-- Settles O8: the eight values are evaluated, the laws of leading bytes hold at every length. -/
theorem signedDecoderCorners : Obligations.SignedDecoderCorners := by
  refine ⟨rfl, ?_, ?_, ?_, ?_, ?_, ?_, ?_, ?_, sint_zero_cons, fun _ bs h => sint_ones_cons_cons h bs⟩
  all_goals decide

end Sys2Proof.Proofs
end

section
/-! SUPPORT. The parser's verdict and READER's turns: which windows parse, the class of an opcode, what
each class dispatches, and what READER does from one iteration boundary to the next. -/

namespace Sys2Proof

open Machine

/-! ### The verdict (R175 to R177) -/

theorem payloadBytes_inj {p p' : Payload12} : payloadBytes p = payloadBytes p' ↔ p = p' := by
  cases p
  cases p'
  simp [payloadBytes]

/-- The windows that parse to a given frame are the RSP16 frames of its parts, with any START (R178). -/
theorem tryParseInbound_eq_some_iff {f : List Byte} {fr : Frame} :
    tryParseInbound f = some fr ↔ ∃ st, f = rspFrame st fr.opc fr.payload := by
  refine ⟨tryParseInbound_eq_some, ?_⟩
  rintro ⟨st, rfl⟩
  exact tryParseInbound_rspFrame st fr.opc fr.payload

/-- Sixteen bytes whose last is the checksum of the others are a frame (R72). -/
theorem exists_eq_rspFrame {f : List Byte} (hlen : f.length = 16)
    (hcrc : crc8 (f.take 15) = f.getD 15 0) : ∃ st o p, f = rspFrame st o p := by
  obtain ⟨st, o, p, hbody⟩ := exists_eq_rspBody (f := f.take 15) (by simp [hlen])
  exact ⟨st, o, p, by rw [rspFrame, ← hbody, hcrc, take_append_getD_of_length hlen]⟩

/-- The opcode value in a frame, its upper byte first (R53). -/
theorem rspFrame_opcode_toNat (st : Byte) (o : Opcode) (p : Payload12) :
    ((rspFrame st o p).getD 1 0).toNat * 256 + ((rspFrame st o p).getD 2 0).toNat = o.toNat :=
  calc (hiByte o).toNat * 256 + (loByte o).toNat
      = (joinOpcode (hiByte o) (loByte o)).toNat := (joinOpcode_toNat ..).symm
    _ = o.toNat := by rw [joinOpcode_hi_lo]

theorem rspFrame_payload (st : Byte) (o : Opcode) (p : Payload12) :
    ((rspFrame st o p).drop 3).take 12 = payloadBytes p := rfl

theorem rspFrame_crc (st : Byte) (o : Opcode) (p : Payload12) :
    crc8 ((rspFrame st o p).take 15) = (rspFrame st o p).getD 15 0 := by
  simp [rspFrame, rspBody, payloadBytes]

/-! ### The class of an opcode (R179) -/

/-- The one opcode a class stands for, where it stands for one (R74 to R76, R179). -/
def FrameClass.opcode : FrameClass → Option Opcode
  | .dist => some distDataOpcode
  | .vel => some velDataOpcode
  | .meteo => some meteoDataOpcode
  | .ack c => some c.opcode
  | .unknown => none
  | .invalid => none

theorem classifyOpcode_eq_iff_of_opcode {k : FrameClass} {o' : Opcode} (hk : k.opcode = some o')
    (o : Opcode) : classifyOpcode o = k ↔ o = o' := by
  constructor
  · rintro rfl
    obtain ⟨ho, hc⟩ | ⟨ho, hc⟩ | ⟨ho, hc⟩ | ⟨c, ho, hc⟩ | ⟨-, hc⟩ := classifyOpcode_cases o
    all_goals
      rw [hc] at hk
      cases hk
    all_goals exact ho
  · rintro rfl
    cases k with
    | dist | vel | meteo => cases hk; rfl
    | ack c => cases hk; exact classifyOpcode_command c
    | unknown | invalid => cases hk

/-- An opcode is unknown where no class stands for it. -/
theorem classifyOpcode_eq_unknown_iff (o : Opcode) :
    classifyOpcode o = .unknown ↔ ¬ ∃ k : FrameClass, k.opcode = some o := by
  constructor
  · rintro h ⟨k, hk⟩
    cases h.symm.trans ((classifyOpcode_eq_iff_of_opcode hk o).mpr rfl)
    cases hk
  · intro hn
    obtain ⟨rfl, -⟩ | ⟨rfl, -⟩ | ⟨rfl, -⟩ | ⟨c, rfl, -⟩ | ⟨-, hc⟩ := classifyOpcode_cases o
    · exact absurd ⟨.dist, rfl⟩ hn
    · exact absurd ⟨.vel, rfl⟩ hn
    · exact absurd ⟨.meteo, rfl⟩ hn
    · exact absurd ⟨.ack c, rfl⟩ hn
    · exact hc

theorem Command.mem_all (c : Command) : c ∈ Command.all := by
  cases c <;> decide

/-- The opcodes of the two tables are those a class stands for (R74, R75). -/
theorem mem_listedOpcodes_iff (o : Opcode) :
    o ∈ distDataOpcode :: velDataOpcode :: meteoDataOpcode :: Command.all.map Command.opcode ↔
      ∃ k : FrameClass, k.opcode = some o := by
  simp only [List.mem_cons, List.mem_map]
  constructor
  · rintro (rfl | rfl | rfl | ⟨c, -, rfl⟩)
    · exact ⟨.dist, rfl⟩
    · exact ⟨.vel, rfl⟩
    · exact ⟨.meteo, rfl⟩
    · exact ⟨.ack c, rfl⟩
  · rintro ⟨k, hk⟩
    cases k with
    | dist => cases hk; exact .inl rfl
    | vel => cases hk; exact .inr (.inl rfl)
    | meteo => cases hk; exact .inr (.inr (.inl rfl))
    | ack c => cases hk; exact .inr (.inr (.inr ⟨c, c.mem_all, rfl⟩))
    | unknown | invalid => cases hk

end Sys2Proof

namespace Sys2Proof.Machine

/-! ### The action of each class (R180) -/

theorem dispatchWindow_of_invalid {f : List Byte} (h : tryParseInbound f = none) (s : State) :
    dispatchWindow f s = .next (enterDesync .desyncCrc s) := by
  by_cases hlen : f.length = Config.rxFrameLen <;>
    simp [dispatchWindow, decode, decodeWindow, hlen, h]

theorem dispatchWindow_of_unknown {f : List Byte} {fr : Frame} (h : tryParseInbound f = some fr)
    (hc : classifyOpcode fr.opc = .unknown) (s : State) :
    dispatchWindow f s = .next (enterDesync .desyncOpcode s) := by
  obtain ⟨st, rfl⟩ := tryParseInbound_eq_some h
  simp [dispatchWindow, decode, decodeWindow, rspFrame_length, hc]

theorem dispatchWindow_rspFrame_dist (st : Byte) (p : Payload12) (s : State) :
    dispatchWindow (rspFrame st distDataOpcode p) s = .next (emit .dist p s) :=
  dispatchWindow_of_decode (decode_rspFrame_dist st p) s

theorem dispatchWindow_rspFrame_vel (st : Byte) (p : Payload12) (s : State) :
    dispatchWindow (rspFrame st velDataOpcode p) s = .next (emit .vel p s) :=
  dispatchWindow_of_decode (decode_rspFrame_vel st p) s

theorem dispatchWindow_rspFrame_meteo (st : Byte) (p : Payload12) (s : State) :
    dispatchWindow (rspFrame st meteoDataOpcode p) s = .next (emit (meteoChannel p) p s) :=
  dispatchWindow_of_decode (decode_rspFrame_meteo st p) s

theorem dispatchWindow_rspFrame_command (c : Command) (st : Byte) (p : Payload12) (s : State) :
    dispatchWindow (rspFrame st c.opcode p) s = .next (setAck s) :=
  (dispatchWindow_of_decode (decode_rspFrame_command c st p) s).trans (exec_ackFrame c st p s)

theorem exec_meteoData (st : Byte) (p : Payload12) (s : State) :
    exec (.meteoData st p) s = .next (emit (meteoChannel p) p s) := rfl

theorem meteoChannel_of_zero {p : Payload12} (h : p.p0 = 0) : meteoChannel p = .meteoAir := if_pos h

theorem meteoChannel_of_ne_zero {p : Payload12} (h : p.p0 ≠ 0) : meteoChannel p = .meteoMat :=
  if_neg h

/-! ### READER's steps, one by one (R171, R173, R174, R183) -/

section ReaderSteps

variable {s : State} {rest : List Event} {f q : List Byte}

theorem step_stops (hs : s.sched = .reader :: rest) (hl : s.lstate ≠ .closed) (hr : s.rstate = .run)
    (ha : s.ract = false) (hstop : s.stop = true) :
    step s = .next { s with sched := rest, rstate := .stopped } := by
  rw [step_of_sched hs]
  simp [turn, readerTurn, readerBoundary, hl, hr, ha, hstop]

theorem step_begins (hs : s.sched = .reader :: rest) (hl : s.lstate ≠ .closed) (hr : s.rstate = .run)
    (ha : s.ract = false) (hstop : s.stop = false) :
    step s = .next (beginWindow { s with sched := rest }) := by
  rw [step_of_sched hs]
  simp [turn, readerTurn, readerBoundary, hl, hr, ha, hstop]

theorem step_expires (hs : s.sched = .reader :: rest) (hl : s.lstate ≠ .closed)
    (hr : s.rstate = .run) (ha : s.ract = true) (hc : s.rxcnt.val < 16) (hq : s.rxq = []) :
    step s = .next (closeWindow (logCause .shortRead { s with sched := rest })) := by
  rw [step_of_sched hs]
  simp [turn, readerTurn, readerCollect, readerExpire, hl, hr, ha, hc, hq]

theorem step_flushes (hs : s.sched = .reader :: rest) (hl : s.lstate ≠ .closed)
    (hr : s.rstate = .desync) : step s = .next (returnFromDesync { s with sched := rest }) := by
  rw [step_of_sched hs]
  simp [turn, readerTurn, hl, hr]

theorem step_parses {t : State} (hs : s.sched = .reader :: rest) (hl : s.lstate ≠ .closed)
    (hr : s.rstate = .run) (ha : s.ract = true) (hc : s.rxcnt = 16) (hf : f.length = 16)
    (hb : s.rxbuf = windowOf f) (hd : dispatchWindow f { s with sched := rest } = .next t) :
    step s = .next (closeWindow t) :=
  calc step s = readerTurn { s with sched := rest } := step_of_sched hs
    _ = andThen closeWindow (dispatchWindow f { s with sched := rest }) :=
      readerTurn_of_full hl hr ha hc hf hb
    _ = .next (closeWindow t) := by rw [hd, andThen_next]

end ReaderSteps

/-! ### One iteration of READER, from the boundary (R170) -/

/-- A run with one step more. -/
theorem runSteps_snoc {k : Nat} {s t u : State} (hrun : runSteps k s = .next t)
    (hstep : step t = .next u) : runSteps (k + 1) s = .next u :=
  (runSteps_add hrun).trans (runSteps_succ_of_next hstep)

/-- The state with the bytes `f` collected in an open window, `q` left in RXQ and the turns `rest` to
come. -/
def fullWindow (f q : List Byte) (rest : List Event) (s : State) : State :=
  { s with sched := rest, rxq := q, rxbuf := windowOf f, ract := true, rxcnt := 16 }

/-- The state after the invalid window `f` has sent READER to DESYNC and the flush is done (R182,
R183). -/
def resynced (f : List Byte) (s : State) : State :=
  { s with rxq := [], rxbuf := windowOf f, ract := false, rxcnt := 0, rstate := .run,
           causeLog := s.causeLog ++ [.desyncCrc] }

section Iteration

variable {s : State} {rest : List Event} {f q : List Byte}

/-- One turn begins the read, sixteen collect the next sixteen bytes of RXQ. -/
theorem runSteps_fills (hs : s.sched = List.replicate 17 .reader ++ rest) (hl : s.lstate ≠ .closed)
    (hr : s.rstate = .run) (ha : s.ract = false) (hstop : s.stop = false) (hf : f.length = 16)
    (hq : s.rxq = f ++ q) : runSteps 17 s = .next (fullWindow f q rest s) := by
  have hcollect := runSteps_collects (l := f) (done := []) (rest := rest)
    (s := beginWindow { s with sched := List.replicate f.length .reader ++ rest })
    rfl hl hr rfl hq rfl (by simp [hf])
  rw [hf] at hcollect
  exact (runSteps_succ_of_next (step_begins hs hl hr ha hstop)).trans hcollect

/-- Eighteen turns take sixteen bytes off RXQ, dispatch them and close the window. -/
theorem runSteps_iteration {t : State} (hs : s.sched = List.replicate 18 .reader ++ rest)
    (hl : s.lstate ≠ .closed) (hr : s.rstate = .run) (ha : s.ract = false) (hstop : s.stop = false)
    (hf : f.length = 16) (hq : s.rxq = f ++ q)
    (hd : dispatchWindow f (fullWindow f q rest s) = .next t) :
    runSteps 18 s = .next (closeWindow t) :=
  runSteps_snoc (runSteps_fills hs hl hr ha hstop hf hq)
    (step_parses (s := fullWindow f q (.reader :: rest) s) rfl hl hr rfl rfl hf rfl hd)

/-- After an iteration on an invalid window the flush drops what is left in RXQ. -/
theorem runSteps_invalid_flush (hs : s.sched = List.replicate 19 .reader ++ rest)
    (hl : s.lstate ≠ .closed) (hr : s.rstate = .run) (ha : s.ract = false) (hstop : s.stop = false)
    (hf : f.length = 16) (hq : s.rxq = f ++ q) (hinv : tryParseInbound f = none) :
    runSteps 19 s = .next { resynced f s with sched := rest } := by
  have hdesync := runSteps_iteration (rest := .reader :: rest) hs hl hr ha hstop hf hq
    (dispatchWindow_of_invalid hinv _)
  have hflush := step_flushes (rest := rest)
    (s := closeWindow (enterDesync .desyncCrc (fullWindow f q (.reader :: rest) s)))
    rfl (by simpa [fullWindow] using hl) rfl
  rw [runSteps_snoc hdesync hflush]
  simp [returnFromDesync, rxFlush, resynced, fullWindow]

end Iteration

/-! ### DEVICE's turns (R21) -/

theorem runSteps_appends {s : State} {l : List Byte} {rest : List Event}
    (hs : s.sched = l.map .device ++ rest) (ht : s.topen = true) :
    runSteps l.length s = .next { s with sched := rest, rxq := s.rxq ++ l } := by
  induction l generalizing s with
  | nil =>
    obtain rfl : s.sched = rest := hs
    simp
  | cons b l ih =>
    have hstep : step s = .next (rxAppend b { s with sched := l.map .device ++ rest }) :=
      (step_of_sched hs).trans (deviceTurn_of_topen b ht)
    rw [List.length_cons, runSteps_succ_of_next hstep,
      ih (s := rxAppend b { s with sched := l.map .device ++ rest }) rfl ht, List.append_cons]
    rfl

/-! ### An invalid window, the flush, and the window after it (R206) -/

/-- The flush leaves RXQ empty, so the sixteen bytes that DEVICE sends after it are the window of the
next iteration. -/
theorem runSteps_resync {s t : State} {f g : List Byte} {rest : List Event}
    (hs : s.sched = List.replicate 19 .reader ++
      (g.map .device ++ (List.replicate 18 .reader ++ rest)))
    (hl : s.lstate ≠ .closed) (ht : s.topen = true) (hr : s.rstate = .run) (ha : s.ract = false)
    (hstop : s.stop = false) (hf : f.length = 16) (hinv : tryParseInbound f = none) (hq : s.rxq = f)
    (hg : g.length = 16)
    (hd : dispatchWindow g (fullWindow g [] rest (resynced f s)) = .next t) :
    runSteps 53 s = .next (closeWindow t) := by
  have hflush := runSteps_invalid_flush hs hl hr ha hstop hf (hq.trans (List.append_nil f).symm) hinv
  have hsend := runSteps_appends (l := g) (rest := List.replicate 18 .reader ++ rest)
    (s := { resynced f s with
      sched := g.map .device ++ (List.replicate 18 .reader ++ rest) }) rfl ht
  rw [hg] at hsend
  have hiter := runSteps_iteration (f := g) (q := []) (rest := rest)
    (s := { resynced f s with sched := List.replicate 18 .reader ++ rest, rxq := g })
    rfl hl rfl rfl hstop hg (List.append_nil g).symm hd
  rw [show 53 = 19 + (16 + 18) from rfl, runSteps_add hflush, runSteps_add hsend]
  exact hiter

/-! ### Turns that have no step (log 2) -/

theorem writerTurn_of_not_enabled {s : State} (h : ¬ writerEnabled s) : writerTurn s = .next s := by
  by_cases hl : s.lstate = .closed
  · simp [writerTurn, hl]
  · have hc : s.cstate = .idle := by simpa [writerEnabled, hl] using h
    simp [writerTurn, hc]

theorem readerTurn_of_not_enabled {s : State} (h : ¬ readerEnabled s) : readerTurn s = .next s := by
  by_cases hl : s.lstate = .closed
  · simp [readerTurn, hl]
  · have hr : s.rstate = .stopped := by simpa [readerEnabled, hl] using h
    simp [readerTurn, hr]

theorem completeClose_of_not_enabled {s : State} (h : ¬ closeEnabled s) (st : CloseStatus) :
    completeClose st s = .next s := if_neg h

theorem deviceTurn_of_not_topen {s : State} (h : s.topen = false) (b : Byte) :
    deviceTurn b s = .next s := by
  simp [deviceTurn, h]

/-! ### READER in STOPPED, and how it gets there (R171, R204) -/

theorem Moves.eq_of_reader_of_stopped {s t : State} (hm : Moves .reader s t)
    (hr : s.rstate = .stopped) : t = s := by
  cases hm with
  | readerPasses => rfl
  | flushes _ h | stops _ h | begins _ h | expires _ h | collects _ _ _ h | emits _ _ _ _ h
  | acknowledges _ _ h | desyncs _ _ _ h => cases hr.symm.trans h

/-- The one move that takes READER to STOPPED is the boundary's with STOP = 1. -/
theorem Moves.at_boundary_of_stops {e : Event} {s t : State} (hm : Moves e s t)
    (hs : s.rstate ≠ .stopped) (ht : t.rstate = .stopped) :
    s.rstate = .run ∧ s.ract = false ∧ s.stop = true := by
  cases hm with
  | stops _ hr ha hstop => exact ⟨hr, ha, hstop⟩
  | opens | flushes | desyncs => cases ht
  | emits => exact absurd ((emit_rstate ..).symm.trans ht) hs
  | _ => exact absurd ht hs

end Sys2Proof.Machine
end

section
/-! The statements about the parser and READER's steps (spec/43_parser.md), settled. -/

namespace Sys2Proof.Proofs

open Machine

/-- Settles O14: the windows that parse are the frames, and a frame's bytes give its parts back. -/
theorem parserVerdict : Obligations.ParserVerdict := by
  intro f fr
  rw [tryParseInbound_eq_some_iff]
  constructor
  · rintro ⟨st, rfl⟩
    exact ⟨rspFrame_length .., rspFrame_crc .., (rspFrame_opcode_toNat ..).symm,
      (rspFrame_payload ..).symm⟩
  · rintro ⟨hlen, hcrc, hopc, hpay⟩
    obtain ⟨st, o, p, rfl⟩ := exists_eq_rspFrame hlen hcrc
    rw [rspFrame_opcode_toNat] at hopc
    rw [rspFrame_payload, payloadBytes_inj] at hpay
    exact ⟨st, by rw [BitVec.eq_of_toNat_eq hopc, hpay]⟩

/-- Settles O15: four of the classes stand for one opcode each, and unknown for those left over. -/
theorem classOfEveryOpcode : Obligations.ClassOfEveryOpcode := by
  refine ⟨rfl, fun o p => ⟨?_, ?_, ?_, fun c => ?_, ?unknown⟩⟩
  case unknown => exact (classifyOpcode_eq_unknown_iff o).trans (mem_listedOpcodes_iff o).symm.not
  all_goals exact classifyOpcode_eq_iff_of_opcode rfl o

/-- Settles O42: a class stands for one opcode, and the frame of that opcode dispatches its row. -/
theorem parseAndDispatchStep : Obligations.ParseAndDispatchStep := by
  intro s f rest hs hl hr ha hc hf hb
  have parses {g : State → State} (hd : ∀ u, dispatchWindow f u = .next (g u)) :=
    step_parses hs hl hr ha hc hf hb (hd { s with sched := rest })
  refine ⟨fun hinv => parses (dispatchWindow_of_invalid hinv), ?_⟩
  rintro ⟨o, p⟩ hfr
  obtain ⟨st, rfl⟩ := tryParseInbound_eq_some hfr
  have opcode_of_class {k : FrameClass} {o' : Opcode} (hk : k.opcode = some o')
      (h : classify (some ⟨o, p⟩) = k) : o = o' := (classifyOpcode_eq_iff_of_opcode hk o).mp h
  refine ⟨fun h => ?dist, fun h => ?vel, fun h h0 => ?air, fun h h0 => ?mat, fun c h => ?ack,
    fun h => parses (dispatchWindow_of_unknown hfr h)⟩
  all_goals obtain rfl := opcode_of_class rfl h
  case dist => exact parses (dispatchWindow_rspFrame_dist st p)
  case vel => exact parses (dispatchWindow_rspFrame_vel st p)
  case air => exact parses (meteoChannel_of_zero h0 ▸ dispatchWindow_rspFrame_meteo st p)
  case mat => exact parses (meteoChannel_of_ne_zero h0 ▸ dispatchWindow_rspFrame_meteo st p)
  case ack => exact parses (dispatchWindow_rspFrame_command c st p)

/-- Settles O44: one iteration of READER, whose dispatch is the row that the frame decodes to. -/
theorem inboundFrameRunsFromTheLine : Obligations.InboundFrameRunsFromTheLine := by
  intro s i f q rest he hs hl hr ha hstop hq
  have hd : decode (.window f) = .ok i := he ▸ decodeOfEncodeIsIdentity i
  obtain ⟨t, ht⟩ := exists_dispatchWindow_eq_next f (fullWindow f q rest s)
  exact ⟨t, (dispatchWindow_of_decode hd _).symm.trans ht,
    runSteps_iteration hs hl hr ha hstop (length_of_decode_window hd) hq ht⟩

/-- Settles O45: the flush leaves RXQ empty, so the frame sent after it is the next iteration's. -/
theorem invalidThenValidFrameGivesOneRecord : Obligations.InvalidThenValidFrameGivesOneRecord := by
  intro s f st p rest hl htopen hr ha hstop hf hinv hq hs
  have hopc : (0xB015 : Opcode) = distDataOpcode := rfl
  rw [hopc] at hs
  exact ⟨_, runSteps_resync hs hl htopen hr ha hstop hf hinv hq (rspFrame_length ..)
    (dispatchWindow_rspFrame_dist st p _), by simp [fullWindow, resynced]⟩

/-- Settles O46: READER's turn passes in STOPPED, and no other agent's move but open touches READER's
part, sets ACK or takes from RXQ. -/
theorem stoppedReaderIsSilent : Obligations.StoppedReaderIsSilent := by
  intro s t hr hno h
  obtain ⟨-, rfl⟩ | ⟨e, rest, hs, hm⟩ := step_moves h
  · exact ⟨hr, List.prefix_rfl, id, rfl, rfl, rfl, rfl⟩
  have hopen : ¬ ∃ q, e = .openReq q := fun ⟨q, he⟩ => hno q rest (he ▸ hs)
  by_cases he : e = .reader
  · subst he
    obtain rfl := hm.eq_of_reader_of_stopped hr
    exact ⟨hr, List.prefix_rfl, id, rfl, rfl, rfl, rfl⟩
  have hother : ¬ (e = .reader ∨ ∃ q, e = .openReq q) := not_or.mpr ⟨he, hopen⟩
  have kept := hm.reader_or_open_or_readerPart_kept.resolve_left hother
  refine ⟨kept.rstate.trans hr, hm.reader_or_open_or_rxq_prefix.resolve_left hother, fun hack => ?ack,
    kept.outDist, kept.outVel, kept.outMair, kept.outMmat⟩
  case ack =>
    obtain hk | ⟨-, hf⟩ | ⟨he', -⟩ := hm.ack_cases
    · exact hk.symm.trans hack
    · cases hf.symm.trans hack
    · exact absurd he' he

/-- Settles O48: with no turn given RSTATE stays, and of the moves only the boundary's stops READER. -/
theorem stopIsSampledOnlyAtTheBoundary : Obligations.StopIsSampledOnlyAtTheBoundary := by
  intro s t h hs ht
  obtain ⟨-, rfl⟩ | ⟨e, rest, -, hm⟩ := step_moves h
  · exact absurd ht hs
  · exact hm.at_boundary_of_stops hs ht

/-- Settles O19: the sensor id chooses METEO_DATA's channel, and a record goes to its channel alone. -/
theorem responsesEmitTheirRecord : Obligations.ResponsesEmitTheirRecord := by
  intro s st p
  refine ⟨rfl, rfl, fun h0 => ?air, fun h0 => ?mat⟩
  all_goals rw [exec_meteoData]
  case air => rw [meteoChannel_of_zero h0]; rfl
  case mat => rw [meteoChannel_of_ne_zero h0]; rfl

/-- Settles O20: each row is its command's acknowledgment. -/
theorem acknowledgmentsSetAck : Obligations.AcknowledgmentsSetAck := by
  intro s st p
  have acks (c : Command) := exec_ackFrame c st p s
  exact ⟨acks .distOn, acks .distOff, acks .velOn, acks .velOff, acks .stopAll, acks .clrSmallSignal,
    acks .clrVelOverflow, acks .clrExtCapture, acks .meteoOn, acks .meteoOff, acks .resetOrigin⟩

/-- Settles O29: each agent's turn, where it has no step, leaves the state without that turn. -/
theorem turnWithoutAStepPasses : Obligations.TurnWithoutAStepPasses := by
  refine ⟨fun s => step_of_nil, fun s e rest hs hidle => (step_of_sched hs).trans ?_⟩
  obtain ⟨rfl, hn⟩ | ⟨rfl, hn⟩ | ⟨⟨st, rfl⟩, hn⟩ | ⟨⟨b, rfl⟩, ht⟩ := hidle
  · exact writerTurn_of_not_enabled (s := { s with sched := rest }) hn
  · exact readerTurn_of_not_enabled (s := { s with sched := rest }) hn
  · exact completeClose_of_not_enabled (s := { s with sched := rest }) hn st
  · exact deviceTurn_of_not_topen (s := { s with sched := rest }) ht b

/-- Settles O38: STOP alone decides between the two steps of the boundary. -/
theorem readerBoundaryStep : Obligations.ReaderBoundaryStep :=
  fun _ _ hs hl hr ha => ⟨step_stops hs hl hr ha, step_begins hs hl hr ha⟩

/-- Settles O39: the collect step at offset RXCNT. -/
theorem readerCollectStep : Obligations.ReaderCollectStep := by
  rintro s _ hk b q rest hs hl hr ha rfl hq
  exact step_collects hs hl hr ha hk hq

/-- Settles O40: with RXQ empty the window's step is its expiry. -/
theorem windowExpiryStep : Obligations.WindowExpiryStep :=
  fun _ _ hs hl hr ha hc hq => step_expires hs hl hr ha hc hq

/-- Settles O41: in DESYNC READER's step is the flush. -/
theorem desyncFlushStep : Obligations.DesyncFlushStep :=
  fun _ _ hs hl hr => step_flushes hs hl hr

end Sys2Proof.Proofs
end

section
/-! SUPPORT. HOST's and WRITER's steps one by one (spec/44_command_fsm.md): what each turn answers where
its step is enabled, where HOST's is refused, and what a completion event shows. -/

namespace Sys2Proof.Machine

/-! ### HOST's steps (R231, R245, R246, R290) -/

section HostSteps

variable {s : State} {rest : List Event}

/-- A request is refused wherever it is not latched (R263). -/
theorem exists_requestCommand_refused (o : Opcode) (p : Payload4) (n : RetryCount)
    (h : s.lstate ≠ .opened ∨ s.cstate ≠ .idle) : ∃ r, requestCommand o p n s = .refused r := by
  unfold requestCommand
  split
  · exact ⟨_, rfl⟩
  · exact ⟨_, if_pos (h.resolve_left ‹_›)⟩

/-- A close is refused wherever it does not start closing (R263). -/
theorem exists_closeBlock_refused (h : s.lstate ≠ .opened ∨ s.cstate ≠ .idle) :
    ∃ r, closeBlock s = .refused r := by
  unfold closeBlock
  split
  · exact ⟨_, rfl⟩
  · exact ⟨_, if_pos (h.resolve_left ‹_›)⟩

theorem completeClose_of_enabled (st : CloseStatus) (h : closeEnabled s) :
    completeClose st s = .next { complete (.closeDone st) s with
      topen := false, lstate := .closed, causeLog := s.causeLog ++ closeCauses st } := if_pos h

theorem step_open {q : List Byte} (hs : s.sched = .openReq q :: rest) :
    step s = openBlock q { s with sched := rest } := step_of_sched hs

theorem step_close (hs : s.sched = .closeReq :: rest) :
    step s = closeBlock { s with sched := rest } := step_of_sched hs

theorem step_request {o : Opcode} {p : Payload4} {n : RetryCount}
    (hs : s.sched = .cmdReq o p n :: rest) :
    step s = requestCommand o p n { s with sched := rest } :=
  (step_of_sched hs).trans (hostRequest_eq ..)

theorem step_requests {o : Opcode} {p : Payload4} {n : RetryCount}
    (hs : s.sched = .cmdReq o p n :: rest) (hl : s.lstate = .opened) (hc : s.cstate = .idle) :
    step s = .next (latchCommand o p n { s with sched := rest }) :=
  (step_request hs).trans (requestCommand_eq_next.mpr ⟨hl, hc, rfl⟩)

end HostSteps

/-! ### WRITER's steps (R232 to R236) -/

section WriterSteps

variable {s : State} {rest : List Event}

theorem writerTurn_of_clear (hl : s.lstate ≠ .closed) (hc : s.cstate = .clear) :
    writerTurn s = .next { clearAck s with cstate := .send } := by
  simp [writerTurn, writerClear, hl, hc]

theorem writerTurn_of_send {f : Vector Byte 8} (hl : s.lstate ≠ .closed) (hc : s.cstate = .send)
    (hf : s.txframe = .holding f) :
    writerTurn s = .next { txPush f.toList s with cstate := .wait } := by
  simp [writerTurn, writerSend, readTxframe, hl, hc, hf]

theorem writerTurn_of_ack (hl : s.lstate ≠ .closed) (hc : s.cstate = .wait) (ha : s.ack = true) :
    writerTurn s = .next (finishCommand .ok s) := by
  simp [writerTurn, writerAcknowledged, hl, hc, ha]

theorem writerTurn_of_timeout (hl : s.lstate ≠ .closed) (hc : s.cstate = .wait)
    (ha : s.ack = false) : writerTurn s = writerTimeout s := by
  simp [writerTurn, hl, hc, ha]

theorem step_succeeds (hs : s.sched = .writer :: rest) (hl : s.lstate ≠ .closed)
    (hc : s.cstate = .wait) (ha : s.ack = true) :
    step s = .next (finishCommand .ok { s with sched := rest }) :=
  (step_of_sched hs).trans (writerTurn_of_ack hl hc ha)

theorem step_retries {n : RetryCount} (hs : s.sched = .writer :: rest) (hl : s.lstate ≠ .closed)
    (hc : s.cstate = .wait) (ha : s.ack = false) (hn : s.rc = .holding n) (h0 : n ≠ 0) :
    step s = .next { logCause .ackWaitTimeout { s with sched := rest } with
      rc := .holding (n - 1), cstate := .clear } :=
  calc step s = writerTurn { s with sched := rest } := step_of_sched hs
    _ = writerTimeout { s with sched := rest } := writerTurn_of_timeout hl hc ha
    _ = _ := writerTimeout_of_ne_zero hn h0

theorem step_exhausts (hs : s.sched = .writer :: rest) (hl : s.lstate ≠ .closed)
    (hc : s.cstate = .wait) (ha : s.ack = false) (hn : s.rc = .holding 0) :
    step s =
      .next (finishCommand .exhausted (logCause .connectionExhausted { s with sched := rest })) :=
  calc step s = writerTurn { s with sched := rest } := step_of_sched hs
    _ = writerTimeout { s with sched := rest } := writerTurn_of_timeout hl hc ha
    _ = _ := writerTimeout_of_zero hn

end WriterSteps

/-- A frame's bytes, offset 0 first (R54). -/
theorem toList_eq_getElem {α : Type} (f : Vector α 8) :
    f.toList = [f[0], f[1], f[2], f[3], f[4], f[5], f[6], f[7]] := by
  simp [toList_eq_ofFn, List.ofFn_succ]

/-- A step that hands HOST one completion event is observed with what that event shows (R282). -/
theorem observation_of_hostLog_append {s t : State} {c : Completion}
    (h : t.hostLog = s.hostLog ++ [c]) : observation s t = some (observeAt c t) := by
  simp [observation, completionOf, h]

end Sys2Proof.Machine
end

section
/-! SUPPORT. Runs under an invariant: the turns of WRITER, READER and DEVICE always have a next state, a
property that every step of a list of turns keeps, how many turns an agent has left, and what
weak fairness brings about. -/

namespace Sys2Proof.Machine

/-! ### Under the invariant no turn of WRITER, READER or DEVICE is stuck (R264) -/

section Progress

variable {s : State}

theorem Reg.eq_holding_of_hasValue {α : Type} {x : Reg α} (h : x.hasValue = true) :
    x = .holding x.bits := by
  cases x
  cases h
  rfl

/-- WRITER reads TXFRAME and RC only, and those of a command in flight hold values (R233, R236). -/
theorem exists_writerTurn_eq_next {f : Vector Byte 8} {n : RetryCount}
    (hf : s.cstate ≠ .idle → s.txframe = .holding f) (hn : s.cstate ≠ .idle → s.rc = .holding n) :
    ∃ t, writerTurn s = .next t := by
  by_cases he : writerEnabled s
  · obtain ⟨hl, hc⟩ := he
    specialize hf hc
    specialize hn hc
    cases hk : s.cstate with
    | idle => exact absurd hk hc
    | clear => exact ⟨_, writerTurn_of_clear hl hk⟩
    | send => exact ⟨_, writerTurn_of_send hl hk hf⟩
    | wait =>
      cases ha : s.ack with
      | true => exact ⟨_, writerTurn_of_ack hl hk ha⟩
      | false =>
        rw [writerTurn_of_timeout hl hk ha]
        by_cases h0 : n = 0
        · exact ⟨_, writerTimeout_of_zero (h0 ▸ hn)⟩
        · exact ⟨_, writerTimeout_of_ne_zero hn h0⟩
  · exact ⟨_, writerTurn_of_not_enabled he⟩

theorem StateInv.exists_writerTurn_eq_next (h : StateInv s) : ∃ t, writerTurn s = .next t := by
  by_cases hc : s.cstate = .idle
  · exact ⟨s, writerTurn_of_not_enabled fun he => he.2 hc⟩
  · obtain ⟨o, p, n, -, -, hn, hf⟩ := h.latched hc
    exact Machine.exists_writerTurn_eq_next (fun _ => hf) (fun _ => hn)

/-- A full window reads back: its sixteen offsets are collected (R37, R174). -/
theorem StateInv.exists_readWindow_eq_ok (h : StateInv s) (hc : s.rxcnt.val = 16) :
    ∃ f, readWindow s = .ok f := by
  refine ⟨s.rxbuf.toList.map Reg.bits, readRegs_ok.mpr (List.ext_getElem (by simp) fun i hi _ => ?_)⟩
  have hi' : i < 16 := by simpa using hi
  simpa using Reg.eq_holding_of_hasValue (h.collected i hi' (hc ▸ hi'))

theorem exists_readerBoundary_eq_next (s : State) : ∃ t, readerBoundary s = .next t := by
  unfold readerBoundary
  split <;> exact ⟨_, rfl⟩

theorem exists_readerCollect_eq_next (h : s.rxcnt.val < 16) : ∃ t, readerCollect s h = .next t := by
  unfold readerCollect
  split <;> exact ⟨_, rfl⟩

theorem exists_readerParse_eq_next {f : List Byte} (h : readWindow s = .ok f) :
    ∃ t, readerParse s = .next t := by
  obtain ⟨t, ht⟩ := exists_dispatchWindow_eq_next f s
  exact ⟨closeWindow t, by simp [readerParse, h, ht]⟩

theorem StateInv.exists_readerTurn_eq_next (h : StateInv s) : ∃ t, readerTurn s = .next t := by
  unfold readerTurn
  split
  · exact ⟨_, rfl⟩
  · split
    · exact ⟨_, rfl⟩
    · exact ⟨_, rfl⟩
    · split
      · split
        · exact exists_readerCollect_eq_next ‹_›
        · obtain ⟨f, hf⟩ := h.exists_readWindow_eq_ok (by omega)
          exact exists_readerParse_eq_next hf
      · exact exists_readerBoundary_eq_next s

theorem exists_deviceTurn_eq_next (b : Byte) (s : State) : ∃ t, deviceTurn b s = .next t := by
  cases ht : s.topen with
  | true => exact ⟨_, deviceTurn_of_topen b ht⟩
  | false => exact ⟨_, deviceTurn_of_not_topen ht b⟩

theorem StateInv.exists_step_eq_next {e : Event} {l : List Event} (h : StateInv s)
    (he : e.agent ≠ .host) (hs : s.sched = e :: l) : ∃ t, step s = .next t := by
  rw [step_of_sched hs]
  have h' := h.withSched l
  cases e with
  | openReq | closeReq | closeDone | cmdReq => exact absurd rfl he
  | writer => exact h'.exists_writerTurn_eq_next
  | reader => exact h'.exists_readerTurn_eq_next
  | device b => exact exists_deviceTurn_eq_next b _

end Progress

/-! ### A property that each turn of a list keeps -/

theorem Moves.sched_kept {e : Event} {s t : State} (hm : Moves e s t) : t.sched = s.sched := by
  cases hm with
  | emits => exact emit_sched ..
  | _ => rfl

section Runs

variable {es rest : List Event} {s t : State}

/-- A run of turns that are none of HOST's keeps what each of its steps keeps; `P` may speak of the turns
still to come. -/
theorem runSteps_keeps {P : List Event → State → Prop}
    (hP : ∀ e es u v, e.agent ≠ .host → P (e :: es) u → u.sched = e :: (es ++ rest) →
      step u = .next v → P es v)
    (hes : ∀ e ∈ es, e.agent ≠ .host) (hs : s.sched = es ++ rest) (h : P es s)
    (hrun : runSteps es.length s = .next t) : P [] t ∧ t.sched = rest := by
  induction es generalizing s with
  | nil =>
    cases hrun
    exact ⟨h, hs⟩
  | cons e es ih =>
    obtain ⟨he, hes⟩ := List.forall_mem_cons.mp hes
    obtain ⟨u, hu, ht⟩ := runSteps_succ_eq_next.mp hrun
    exact ih hes (moves_of_step hs hu).sched_kept (hP e es s u he h hs hu) ht

/-- With the invariant such a run is never stopped (R264). -/
theorem StateInv.exists_runSteps_eq_next (hi : StateInv s) (hes : ∀ e ∈ es, e.agent ≠ .host)
    (hs : s.sched = es ++ rest) : ∃ t, runSteps es.length s = .next t := by
  induction es generalizing s with
  | nil => exact ⟨s, rfl⟩
  | cons e es ih =>
    obtain ⟨he, hes⟩ := List.forall_mem_cons.mp hes
    obtain ⟨u, hu⟩ := hi.exists_step_eq_next he hs
    have hm := moves_of_step hs hu
    obtain ⟨t, ht⟩ := ih (hm.keeps_inv (hi.withSched _)) hes hm.sched_kept
    exact ⟨t, (runSteps_succ_of_next hu).trans ht⟩

end Runs

/-- A bound that each turn of one agent lowers, and no other turn raises, stays within the number of
that agent's turns to come. -/
theorem le_count_of_le_count_cons {a e : Event} {es : List Event} {m m' : Nat}
    (h : m ≤ (e :: es).count a) (lowers : e = a → m' ≤ m - 1) (keeps : e ≠ a → m' ≤ m) :
    m' ≤ es.count a := by
  by_cases he : e = a
  · have := lowers he
    rw [he, List.count_cons_self] at h
    omega
  · rw [List.count_cons_of_ne he] at h
    exact (keeps he).trans h

/-! ### Weak fairness (R281) -/

theorem FairRun.stateInv {σ : Nat → Event} {r : Nat → State} (hf : FairRun σ r)
    (h : StateInv (r 0)) (k : Nat) : StateInv (r k) := by
  induction k with
  | zero => exact h
  | succ k ih => exact (turn_moves (hf.run k)).keeps_inv ih

/-- `P` holds on until `Q` does, and the step of a fair agent, enabled throughout, lowers a rank that no
other step raises; so `Q` comes. Induction on the rank. -/
theorem WeaklyFair.leads_to {enabled : State → Prop} {takes : Event → Prop} {σ : Nat → Event}
    {r : Nat → State} (hf : WeaklyFair enabled takes σ r) {P Q : State → Prop} (rank : State → Nat)
    (hen : ∀ j, P (r j) → enabled (r j))
    (hnext : ∀ j, P (r j) → Q (r (j + 1)) ∨ (P (r (j + 1)) ∧ rank (r (j + 1)) ≤ rank (r j) ∧
      (takes (σ j) → rank (r (j + 1)) < rank (r j))))
    {k : Nat} (hk : P (r k)) : ∃ j, k ≤ j ∧ Q (r j) := by
  induction hm : rank (r k) using Nat.strong_induction_on generalizing k with
  | _ m ih =>
    by_contra! hno
    have holds (j : Nat) (hj : k ≤ j) : P (r j) ∧ rank (r j) ≤ m := by
      induction j, hj using Nat.le_induction with
      | base => exact ⟨hk, hm.le⟩
      | succ j hj hPj =>
        obtain ⟨hP, hle, -⟩ := (hnext j hPj.1).resolve_left (hno (j + 1) (by omega))
        exact ⟨hP, hle.trans hPj.2⟩
    obtain ⟨j, hj, htakes⟩ := hf k fun j hj => hen j (holds j hj).1
    obtain ⟨hP, -, hlt⟩ := (hnext j (holds j hj).1).resolve_left (hno (j + 1) (by omega))
    obtain ⟨i, hi, hQ⟩ := ih _ ((hlt htakes).trans_le (holds j hj).2) hP rfl
    exact hno i (by omega) hQ

end Sys2Proof.Machine
end

section
/-! SUPPORT. A command from its request to its end (spec/44_command_fsm.md): what has been sent and
counted at each of WRITER's control states, what changes when nothing acknowledges the command, and
how many turns WRITER has left (R237, R238). -/

namespace Sys2Proof.Machine

theorem Event.eq_writer_of_agent {e : Event} (h : e.agent = .writer) : e = .writer := by
  cases e with
  | writer => rfl
  | _ => cases h

/-! ### What READER and DEVICE leave to WRITER -/

/-- What tells how far a command has come is the same in both states. -/
structure ProgressKept (s t : State) : Prop where
  lstate : t.lstate = s.lstate
  txframe : t.txframe = s.txframe
  txs : t.txs = s.txs
  cstate : t.cstate = s.cstate
  rc : t.rc = s.rc
  cresult : t.cresult = s.cresult
  hostLog : t.hostLog = s.hostLog
  retries : t.causeLog.count .ackWaitTimeout = s.causeLog.count .ackWaitTimeout

section Frames

variable {e : Event} {s t : State}

theorem Moves.host_or_hostLog_kept (hm : Moves e s t) :
    (e.agent = .host ∨ e = .writer) ∨ t.hostLog = s.hostLog := by
  cases hm with
  | closeEnds => exact .inl (.inl rfl)
  | succeeds | exhausts => exact .inl (.inr rfl)
  | emits => exact .inr (emit_hostLog ..)
  | _ => exact .inr rfl

/-- Of the moves only WRITER's timeout logs a retry (R236, R260). -/
theorem Moves.writer_or_retries_kept (hm : Moves e s t) :
    e = .writer ∨ t.causeLog.count .ackWaitTimeout = s.causeLog.count .ackWaitTimeout := by
  cases hm with
  | retries | exhausts => exact .inl rfl
  | closeEnds st => cases st <;> simp [closeCauses]
  | expires => simp
  | emits => simp
  | desyncs _ _ _ _ _ _ _ _ hk => rcases hk with rfl | rfl <;> simp
  | _ => exact .inr rfl

theorem Moves.writer_or_progressKept (hm : Moves e s t) (he : e.agent ≠ .host) :
    e = .writer ∨ ProgressKept s t := by
  by_cases hw : e = .writer
  · exact .inl hw
  · have hother : ¬ (e.agent = .host ∨ e = .writer) := not_or.mpr ⟨he, hw⟩
    have host := hm.host_or_hostPart_kept.resolve_left he
    have command := hm.host_or_writer_or_commandPart_kept.resolve_left
      (not_or.mpr ⟨he, mt Event.eq_writer_of_agent hw⟩)
    exact .inr {
      lstate := host.lstate
      txframe := host.txframe
      txs := hm.writer_or_txs_kept.resolve_left hw
      cstate := command.cstate
      rc := command.rc
      cresult := command.cresult
      hostLog := hm.host_or_hostLog_kept.resolve_left hother
      retries := hm.writer_or_retries_kept.resolve_left hw }

end Frames

/-! ### The progress of a command (R237) -/

@[simp] theorem copies_zero (f : Vector Byte 8) : copies 0 f = [] := rfl

theorem copies_succ (k : Nat) (f : Vector Byte 8) : copies (k + 1) f = copies k f ++ f.toList := by
  simp [copies, List.replicate_succ']

/-- How often a command has been sent when `k` of its retries have been taken (R233, R236). -/
@[simp] def CState.transmissions (k : Nat) : CState → Nat
  | .clear | .send => k
  | .wait | .idle => k + 1

/-- How far the command `f` requested in `s` with budget `n` has come in `u`, where `k` of its retries have
been taken: what TXS, RC and the two logs then hold, and its outcome if it has ended. -/
structure CommandProgress (s : State) (f : Vector Byte 8) (n : RetryCount) (k : Nat) (u : State) :
    Prop where
  frame : u.txframe = .holding f
  budget : ∃ m, u.rc = .holding m ∧ m.toNat + k = n.toNat
  sent : u.txs = s.txs ++ copies (u.cstate.transmissions k) f
  retries : u.causeLog.count .ackWaitTimeout = s.causeLog.count .ackWaitTimeout + k
  pending : u.cstate ≠ .idle → u.hostLog = s.hostLog
  ended : u.cstate = .idle →
    (u.cresult = .ok ∧ u.hostLog = s.hostLog ++ [.cmdDone .ok]) ∨
    (u.cresult = .exhausted ∧ u.hostLog = s.hostLog ++ [.cmdDone .exhausted] ∧ k = n.toNat)

section Command

variable {s u v : State} {e : Event} {f : Vector Byte 8} {n : RetryCount} {k : Nat}

theorem CommandProgress.withSched (h : CommandProgress s f n k u) (l : List Event) :
    CommandProgress s f n k { u with sched := l } := { h with }

theorem commandProgress_latchCommand (o : Opcode) (p : Payload4) (n : RetryCount) (s : State)
    (l : List Event) :
    CommandProgress s (encodeCommand o p) n 0 (latchCommand o p n { s with sched := l }) where
  frame := rfl
  budget := ⟨n, rfl, rfl⟩
  sent := (List.append_nil _).symm
  retries := rfl
  pending _ := rfl
  ended := nofun

theorem CommandProgress.of_kept (h : CommandProgress s f n k u) (hk : ProgressKept u v) :
    CommandProgress s f n k v where
  frame := hk.txframe.trans h.frame
  budget := hk.rc ▸ h.budget
  sent := by rw [hk.txs, hk.cstate, h.sent]
  retries := hk.retries.trans h.retries
  pending hc := hk.hostLog.trans (h.pending (hk.cstate ▸ hc))
  ended hc := by
    rw [hk.cresult, hk.hostLog]
    exact h.ended (hk.cstate ▸ hc)

theorem CommandProgress.afterClear (h : CommandProgress s f n k u) (hc : u.cstate = .clear) :
    CommandProgress s f n k { clearAck u with cstate := .send } where
  frame := h.frame
  budget := h.budget
  sent := by simpa [hc] using h.sent
  retries := h.retries
  pending _ := h.pending (hc.trans_ne nofun)
  ended := nofun

theorem CommandProgress.afterSend (h : CommandProgress s f n k u) (hc : u.cstate = .send) :
    CommandProgress s f n k { txPush f.toList u with cstate := .wait } where
  frame := h.frame
  budget := h.budget
  sent := by simp [h.sent, hc, copies_succ]
  retries := h.retries
  pending _ := h.pending (hc.trans_ne nofun)
  ended := nofun

theorem CommandProgress.afterSuccess (h : CommandProgress s f n k u) (hc : u.cstate = .wait) :
    CommandProgress s f n k (finishCommand .ok u) where
  frame := h.frame
  budget := h.budget
  sent := by simpa [hc] using h.sent
  retries := h.retries
  pending := absurd rfl
  ended _ := .inl ⟨rfl, by simp [h.pending (hc.trans_ne nofun)]⟩

theorem CommandProgress.afterRetry {m : RetryCount} (h : CommandProgress s f n k u)
    (hc : u.cstate = .wait) (hm : u.rc = .holding m) (h0 : m ≠ 0) :
    CommandProgress s f n (k + 1)
      { logCause .ackWaitTimeout u with rc := .holding (m - 1), cstate := .clear } where
  frame := h.frame
  budget := by
    obtain ⟨m', hm', hsum⟩ := h.budget
    obtain rfl : m' = m := Reg.holding_inj.mp (hm'.symm.trans hm)
    have := retryCount_sub_one h0
    exact ⟨m' - 1, rfl, by omega⟩
  sent := by simpa [hc] using h.sent
  retries := by simp [h.retries, Nat.add_assoc]
  pending _ := h.pending (hc.trans_ne nofun)
  ended := nofun

theorem CommandProgress.afterExhaustion (h : CommandProgress s f n k u) (hc : u.cstate = .wait)
    (h0 : u.rc = .holding 0) :
    CommandProgress s f n k (finishCommand .exhausted (logCause .connectionExhausted u)) where
  frame := h.frame
  budget := h.budget
  sent := by simpa [hc] using h.sent
  retries := by simp [h.retries]
  pending := absurd rfl
  ended _ := by
    obtain ⟨m, hm, hsum⟩ := h.budget
    obtain rfl : m = 0 := Reg.holding_inj.mp (hm.symm.trans h0)
    exact .inr ⟨rfl, by simp [h.pending (hc.trans_ne nofun)], by simpa using hsum⟩

/-- Whatever WRITER, READER and DEVICE do, the command has come so far with some number of retries. -/
theorem Moves.keeps_commandProgress (hm : Moves e u v) (he : e.agent ≠ .host)
    (h : CommandProgress s f n k u) : ∃ k', CommandProgress s f n k' v := by
  obtain rfl | hk := hm.writer_or_progressKept he
  · cases hm with
    | writerPasses => exact ⟨k, h⟩
    | clears _ hc => exact ⟨k, h.afterClear hc⟩
    | sends f' _ hc hf =>
      obtain rfl : f' = f := Reg.holding_inj.mp (hf.symm.trans h.frame)
      exact ⟨k, h.afterSend hc⟩
    | succeeds _ hc => exact ⟨k, h.afterSuccess hc⟩
    | retries m _ hc _ hm h0 => exact ⟨k + 1, h.afterRetry hc hm h0⟩
    | exhausts _ hc _ h0 => exact ⟨k, h.afterExhaustion hc h0⟩
  · exact ⟨k, h.of_kept hk⟩

/-- A command under way has its registers written, so WRITER's turn is not stuck. -/
theorem CommandProgress.exists_writer_move {l : List Event} (h : CommandProgress s f n k u)
    (hs : u.sched = .writer :: l) :
    ∃ v, step u = .next v ∧ Moves .writer { u with sched := l } v := by
  obtain ⟨m, hm, -⟩ := h.budget
  obtain ⟨v, hv⟩ := exists_writerTurn_eq_next (s := { u with sched := l })
    (fun _ => h.frame) (fun _ => hm)
  exact ⟨v, (step_of_sched hs).trans hv, turn_moves hv⟩

/-- So WRITER's turns alone are never stopped while it is. -/
theorem CommandProgress.exists_runSteps_eq_next {j : Nat} {l : List Event}
    (h : CommandProgress s f n k u) (hs : u.sched = List.replicate j .writer ++ l) :
    ∃ t, runSteps j u = .next t := by
  induction j generalizing u k with
  | zero => exact ⟨u, rfl⟩
  | succ j ih =>
    obtain ⟨v, hv, hm⟩ := h.exists_writer_move hs
    obtain ⟨k', h'⟩ := hm.keeps_commandProgress nofun (h.withSched _)
    obtain ⟨t, ht⟩ := ih h' hm.sched_kept
    exact ⟨t, (runSteps_succ_of_next hv).trans ht⟩

end Command

/-! ### A command that is never acknowledged (R237, R265) -/

/-- The command `f` requested in `s` with budget `n` has come so far in OPEN, and since its first clear step
no acknowledgment has come. -/
structure Unacknowledged (s : State) (f : Vector Byte 8) (n : RetryCount) (u : State) : Prop where
  progress : ∃ k, CommandProgress s f n k u
  opened : u.lstate = .opened
  silent : u.cstate = .clear ∨ u.ack = false
  outcome : u.cstate = .idle → u.cresult = .exhausted

/-- No step of the next `k` sets ACK. -/
def AckNeverRises (k : Nat) (s : State) : Prop :=
  ∀ j u v, j < k → runSteps j s = .next u → step u = .next v → u.ack = false → v.ack = false

theorem AckNeverRises.next {k : Nat} {s t : State} (h : AckNeverRises (k + 1) s)
    (ht : step s = .next t) : AckNeverRises k t :=
  fun j u v hj hu => h (j + 1) u v (Nat.succ_lt_succ hj) ((runSteps_succ_of_next ht).trans hu)

/-- WRITER's turn does not set ACK (R40). -/
theorem Moves.ack_false_of_writer {s t : State} (hm : Moves .writer s t) (h : s.ack = false) :
    t.ack = false := by
  obtain hk | ⟨-, hf⟩ | ⟨he, -⟩ := hm.ack_cases
  · exact hk.trans h
  · exact hf
  · cases he

/-- So WRITER's turns alone never do. -/
theorem ackNeverRises_of_writers {k : Nat} {s : State} {l : List Event}
    (hs : s.sched = List.replicate k .writer ++ l) : AckNeverRises k s := by
  intro j u v hj hu hv
  induction j generalizing k s with
  | zero =>
    obtain ⟨k, rfl⟩ := Nat.exists_eq_succ_of_ne_zero (Nat.ne_of_gt hj)
    cases hu
    exact (moves_of_step hs hv).ack_false_of_writer
  | succ j ih =>
    obtain ⟨k, rfl⟩ := Nat.exists_eq_succ_of_ne_zero (Nat.ne_of_gt (Nat.zero_lt_of_lt hj))
    obtain ⟨w, hw, hu⟩ := runSteps_succ_eq_next.mp hu
    exact ih (moves_of_step hs hw).sched_kept (Nat.lt_of_succ_lt_succ hj) hu

section Unacknowledged

variable {s u v : State} {e : Event} {f : Vector Byte 8} {n : RetryCount}

theorem Unacknowledged.withSched (h : Unacknowledged s f n u) (l : List Event) :
    Unacknowledged s f n { u with sched := l } :=
  { h with progress := h.progress.imp fun _ hk => hk.withSched l }

theorem unacknowledged_latchCommand (o : Opcode) (p : Payload4) (n : RetryCount) (l : List Event)
    (hl : s.lstate = .opened) :
    Unacknowledged s (encodeCommand o p) n (latchCommand o p n { s with sched := l }) where
  progress := ⟨0, commandProgress_latchCommand o p n s l⟩
  opened := hl
  silent := .inl rfl
  outcome := nofun

/-- Where ACK = 0 stays, the command stays unacknowledged, and if it ends it ends EXHAUSTED. -/
theorem Moves.keeps_unacknowledged (hm : Moves e u v) (he : e.agent ≠ .host)
    (hack : u.ack = false → v.ack = false) (h : Unacknowledged s f n u) :
    Unacknowledged s f n v where
  progress := h.progress.elim fun _ hk => hm.keeps_commandProgress he hk
  opened := (hm.host_or_hostPart_kept.resolve_left he).lstate.trans h.opened
  silent := by
    obtain rfl | hk := hm.writer_or_progressKept he
    · cases hm with
      | writerPasses => exact h.silent
      | clears => exact .inr rfl
      | retries => exact .inl rfl
      | sends _ _ hc | succeeds _ hc | exhausts _ hc =>
        exact .inr (hack (h.silent.resolve_left (hc.trans_ne nofun)))
    · rw [hk.cstate]
      exact h.silent.imp_right hack
  outcome := by
    obtain rfl | hk := hm.writer_or_progressKept he
    · cases hm with
      | writerPasses => exact h.outcome
      | clears | sends | retries => exact nofun
      | succeeds _ hc ha =>
        cases ha.symm.trans (h.silent.resolve_left (hc.trans_ne nofun))
      | exhausts => exact fun _ => rfl
    · rw [hk.cstate, hk.cresult]
      exact h.outcome

end Unacknowledged

/-! ### How many turns WRITER has left (R238) -/

/-- The most turns that WRITER takes to end the command in flight: three for each transmission. -/
def writerTurnsLeft (s : State) : Nat :=
  match s.cstate with
  | .idle => 0
  | .wait => 3 * s.rc.bits.toNat + 1
  | .send => 3 * s.rc.bits.toNat + 2
  | .clear => 3 * s.rc.bits.toNat + 3

section WriterTurnsLeft

variable {e : Event} {s t : State}

theorem writerTurnsLeft_eq_zero_iff : writerTurnsLeft s = 0 ↔ s.cstate = .idle := by
  unfold writerTurnsLeft
  cases s.cstate <;> simp

theorem writerTurnsLeft_le (s : State) : writerTurnsLeft s ≤ 3 * (s.rc.bits.toNat + 1) := by
  unfold writerTurnsLeft
  cases s.cstate <;> simp only <;> omega

theorem writerTurnsLeft_congr (hc : t.cstate = s.cstate) (hr : t.rc = s.rc) :
    writerTurnsLeft t = writerTurnsLeft s := by
  rw [writerTurnsLeft, hc, hr]
  rfl

/-- Each of WRITER's turns brings the command nearer to its end; a timeout takes a retry for three. -/
theorem Moves.writerTurnsLeft_le_pred (hm : Moves .writer s t) (hl : s.lstate ≠ .closed) :
    writerTurnsLeft t ≤ writerTurnsLeft s - 1 := by
  cases hm with
  | writerPasses hn => simp [writerTurnsLeft, hn.resolve_left hl]
  | clears _ hc | sends _ _ hc | succeeds _ hc | exhausts _ hc => simp [writerTurnsLeft, hc]
  | retries n _ hc _ hn h0 =>
    have := retryCount_sub_one h0
    simp only [writerTurnsLeft, hc, hn, Reg.holding_bits]
    omega

/-- While the command's bound is within the WRITER turns to come, every turn of WRITER, READER or DEVICE
keeps it so. -/
theorem Moves.writerTurnsLeft_le_count {es : List Event} (hm : Moves e s t) (he : e.agent ≠ .host)
    (hl : s.lstate ≠ .closed) (h : writerTurnsLeft s ≤ (e :: es).count .writer) :
    writerTurnsLeft t ≤ es.count .writer := by
  refine le_count_of_le_count_cons h (fun hw => ?lowers) (fun hw => ?keeps)
  case lowers =>
    subst hw
    exact hm.writerTurnsLeft_le_pred hl
  case keeps =>
    have kept := (hm.writer_or_progressKept he).resolve_left hw
    exact (writerTurnsLeft_congr kept.cstate kept.rc).le

/-- In flight, only WRITER's moves write the command's items. -/
theorem Moves.writer_or_commandPart_kept_of_inFlight (hm : Moves e s t) (hi : StateInv s)
    (hc : s.cstate ≠ .idle) : e = .writer ∨ CommandPartKept s t := by
  have hl := hi.inFlight hc
  obtain he | hk := hm.host_or_writer_or_commandPart_kept
  · refine he.symm.imp Event.eq_writer_of_agent fun he => ?_
    cases hm with
    | opens _ hl' => cases hl.symm.trans hl'
    | closes _ hc' | requests _ _ _ _ hc' => exact absurd hc' hc
    | closeEnds | closePasses => exact ⟨rfl, rfl, rfl⟩
    | _ => cases he
  · exact .inr hk

/-- On the way to its end no turn sets the command in flight back, and WRITER's bring it nearer. -/
theorem Moves.writerTurnsLeft_of_inFlight (hm : Moves e s t) (hi : StateInv s)
    (hc : s.cstate ≠ .idle) : writerTurnsLeft t ≤ writerTurnsLeft s ∧
      (e = .writer → writerTurnsLeft t < writerTurnsLeft s) := by
  have hpos : writerTurnsLeft s ≠ 0 := mt writerTurnsLeft_eq_zero_iff.mp hc
  have lowers (he : e = .writer) : writerTurnsLeft t < writerTurnsLeft s := by
    subst he
    have := hm.writerTurnsLeft_le_pred ((hi.inFlight hc).trans_ne nofun)
    omega
  refine ⟨?_, lowers⟩
  obtain he | kept := hm.writer_or_commandPart_kept_of_inFlight hi hc
  · exact (lowers he).le
  · exact (writerTurnsLeft_congr kept.cstate kept.rc).le

end WriterTurnsLeft

/-! ### Lists of turns that suffice -/

section TurnsSuffice

variable {s u v t : State} {e : Event} {es rest l : List Event} {o : Opcode} {p : Payload4}
variable {f : Vector Byte 8} {n : RetryCount}

/-- The block is OPEN, and WRITER has as many of the turns `es` as its command can take. -/
structure CommandTurnsSuffice (es : List Event) (u : State) : Prop where
  opened : u.lstate = .opened
  bound : writerTurnsLeft u ≤ es.count .writer

theorem CommandTurnsSuffice.next (h : CommandTurnsSuffice (e :: es) u) (he : e.agent ≠ .host)
    (hm : Moves e { u with sched := l } v) : CommandTurnsSuffice es v where
  opened := (hm.host_or_hostPart_kept.resolve_left he).lstate.trans h.opened
  bound := hm.writerTurnsLeft_le_count he (h.opened.trans_ne nofun) h.bound

/-- When the turns are over, so is the command. -/
theorem CommandTurnsSuffice.idle (h : CommandTurnsSuffice [] u) : u.cstate = .idle :=
  writerTurnsLeft_eq_zero_iff.mp (Nat.le_zero.mp h.bound)

theorem commandTurnsSuffice_latchCommand (hl : s.lstate = .opened)
    (hcount : 3 * (n.toNat + 1) ≤ es.count .writer) :
    CommandTurnsSuffice es (latchCommand o p n { s with sched := l }) where
  opened := hl
  bound := (writerTurnsLeft_le _).trans hcount

/-- A command that was never acknowledged and has ended has ended EXHAUSTED, sent `n + 1` times (R237). -/
theorem Unacknowledged.exhausted (h : Unacknowledged s f n u) (hend : u.cstate = .idle) :
    u.cresult = .exhausted ∧ u.rc = .holding 0 ∧ u.ack = false ∧ u.lstate = .opened ∧
      u.txs = s.txs ++ copies (n.toNat + 1) f ∧ u.hostLog = s.hostLog ++ [.cmdDone .exhausted] := by
  obtain ⟨k, hk⟩ := h.progress
  have hres := h.outcome hend
  obtain ⟨hok, -⟩ | ⟨-, hlog, rfl⟩ := hk.ended hend
  · cases hok.symm.trans hres
  · obtain ⟨m, hm, hsum⟩ := hk.budget
    have h0 : m = 0 := BitVec.eq_of_toNat_eq (by simpa using hsum)
    exact ⟨hres, h0 ▸ hm, h.silent.resolve_left (hend.trans_ne nofun), h.opened,
      by simpa [hend] using hk.sent, hlog⟩

/-- An unacknowledged command, with turns to come that suffice and in which no step sets ACK. -/
structure UnacknowledgedRun (s : State) (f : Vector Byte 8) (n : RetryCount) (es : List Event)
    (u : State) : Prop where
  command : Unacknowledged s f n u
  turns : CommandTurnsSuffice es u
  quiet : AckNeverRises es.length u

theorem UnacknowledgedRun.next (h : UnacknowledgedRun s f n (e :: es) u) (he : e.agent ≠ .host)
    (hs : u.sched = e :: l) (hv : step u = .next v) : UnacknowledgedRun s f n es v :=
  have hm := moves_of_step hs hv
  { command := hm.keeps_unacknowledged he (h.quiet 0 u v (Nat.succ_pos _) rfl hv)
      (h.command.withSched l)
    turns := h.turns.next he hm
    quiet := h.quiet.next hv }

/-- A request in OPEN and IDLE, then such a run of turns: the command ends EXHAUSTED (R237). -/
theorem runSteps_exhausts (hs : s.sched = .cmdReq o p n :: (es ++ rest)) (hl : s.lstate = .opened)
    (hc : s.cstate = .idle) (hes : ∀ e ∈ es, e.agent ≠ .host)
    (hcount : 3 * (n.toNat + 1) ≤ es.count .writer)
    (hquiet : AckNeverRises es.length (latchCommand o p n { s with sched := es ++ rest }))
    (hrun : runSteps es.length (latchCommand o p n { s with sched := es ++ rest }) = .next t) :
    runSteps (es.length + 1) s = .next t ∧
      t.cstate = .idle ∧ t.cresult = .exhausted ∧ t.rc = .holding 0 ∧ t.ack = false ∧
      t.lstate = .opened ∧ t.txs = s.txs ++ copies (n.toNat + 1) (encodeCommand o p) ∧
      t.hostLog = s.hostLog ++ [.cmdDone .exhausted] ∧ t.sched = rest := by
  obtain ⟨h, hrest⟩ := runSteps_keeps (rest := rest)
    (P := UnacknowledgedRun s (encodeCommand o p) n)
    (fun _ _ _ _ he h hs hv => h.next he hs hv) hes rfl
    ⟨unacknowledged_latchCommand o p n _ hl, commandTurnsSuffice_latchCommand hl hcount, hquiet⟩ hrun
  have hend := h.turns.idle
  obtain ⟨hres, hrc, hack, hopen, htxs, hlog⟩ := h.command.exhausted hend
  exact ⟨(runSteps_succ_of_next (step_requests hs hl hc)).trans hrun, hend, hres, hrc, hack, hopen,
    htxs, hlog, hrest⟩

end TurnsSuffice

end Sys2Proof.Machine
end

section
/-! SUPPORT. READER after close (spec/44_command_fsm.md R247): how many turns it has left until it stops,
and what the other agents can do meanwhile. -/

namespace Sys2Proof.Machine

/-- The most turns that READER takes to stop once STOP = 1: the rest of the window and its dispatch, the
flush if it enters DESYNC, and the boundary (R171 to R174, R183). -/
def readerTurnsLeft (s : State) : Nat :=
  match s.rstate with
  | .stopped => 0
  | .desync => 2
  | .run => if s.ract then 19 - s.rxcnt.val else 1

section ReaderTurnsLeft

variable {e : Event} {s t : State}

theorem readerTurnsLeft_eq_zero_iff : readerTurnsLeft s = 0 ↔ s.rstate = .stopped := by
  have hcnt := s.rxcnt.isLt
  unfold readerTurnsLeft
  cases s.rstate with
  | stopped | desync => simp
  | run => cases s.ract with
    | false => simp
    | true => simpa using (by omega : 19 - s.rxcnt.val ≠ 0)

theorem readerTurnsLeft_le (s : State) : readerTurnsLeft s ≤ 19 := by
  unfold readerTurnsLeft
  cases s.rstate with
  | stopped | desync => simp
  | run => cases s.ract <;> simp

theorem readerTurnsLeft_congr (h : ReaderPartKept s t) : readerTurnsLeft t = readerTurnsLeft s := by
  rw [readerTurnsLeft, h.rstate, h.ract, h.rxcnt]
  rfl

/-- With STOP = 1 each of READER's turns brings it nearer to STOPPED, for no window begins any more. -/
theorem Moves.readerTurnsLeft_le_pred (hm : Moves .reader s t) (hi : StateInv s)
    (hl : s.lstate = .closing) : readerTurnsLeft t ≤ readerTurnsLeft s - 1 := by
  cases hm with
  | readerPasses hn => simp [readerTurnsLeft, hn.resolve_left (hl.trans_ne nofun)]
  | flushes _ hr =>
    have ha : s.ract = false := by
      by_contra hw
      cases hr.symm.trans (hi.window (by simpa using hw))
    simp [readerTurnsLeft, hr, ha]
  | stops => exact Nat.zero_le _
  | begins _ _ _ hs => cases hs.symm.trans (hi.stopSet hl)
  | expires _ hr ha hc | collects _ _ _ hr ha hc =>
    simp [readerTurnsLeft, hr, ha]
    omega
  | emits _ ch p _ hr ha hc | acknowledges _ _ hr ha hc | desyncs _ _ _ hr ha hc =>
    simp [readerTurnsLeft, hr, ha, hc]

/-- In CLOSING the block stays so until the close completes, which takes READER STOPPED (R246). -/
theorem Moves.closing_or_closed (hm : Moves e s t) (hl : s.lstate = .closing) :
    t.lstate = .closing ∨
      (s.rstate = .stopped ∧ (∃ st, e = .closeDone st) ∧ t.lstate = .closed) := by
  cases hm with
  | opens _ hl' | closes hl' | requests _ _ _ hl' => cases hl.symm.trans hl'
  | closeEnds st _ hr => exact .inr ⟨hr, ⟨st, rfl⟩, rfl⟩
  | emits => exact .inl ((emit_lstate ..).trans hl)
  | _ => exact .inl hl

/-- In CLOSING with READER STOPPED, close completion is no turn that passes. -/
theorem Moves.closed_of_closeDone {st : CloseStatus} (hm : Moves (.closeDone st) s t)
    (he : closeEnabled s) : t.lstate = .closed := by
  cases hm with
  | closeEnds => rfl
  | closePasses _ hn => exact absurd he hn

/-- In CLOSING only READER's turns touch READER's part. -/
theorem Moves.reader_or_readerPart_kept_of_closing (hm : Moves e s t) (hl : s.lstate = .closing) :
    e = .reader ∨ ReaderPartKept s t := by
  obtain (he | ⟨q, rfl⟩) | hk := hm.reader_or_open_or_readerPart_kept
  · exact .inl he
  · cases hm with
    | opens _ hl' => cases hl.symm.trans hl'
  · exact .inr hk

/-- In CLOSING no turn sets READER back on its way to STOPPED, and its own bring it nearer. -/
theorem Moves.readerTurnsLeft_of_closing (hm : Moves e s t) (hi : StateInv s)
    (hl : s.lstate = .closing) (hr : s.rstate ≠ .stopped) :
    readerTurnsLeft t ≤ readerTurnsLeft s ∧
      (e = .reader → readerTurnsLeft t < readerTurnsLeft s) := by
  have hpos : readerTurnsLeft s ≠ 0 := mt readerTurnsLeft_eq_zero_iff.mp hr
  have lowers (he : e = .reader) : readerTurnsLeft t < readerTurnsLeft s := by
    subst he
    have := hm.readerTurnsLeft_le_pred hi hl
    omega
  refine ⟨?_, lowers⟩
  obtain he | kept := hm.reader_or_readerPart_kept_of_closing hl
  · exact (lowers he).le
  · exact (readerTurnsLeft_congr kept).le

/-- In CLOSING a STOPPED READER stays so. -/
theorem Moves.stopped_of_closing (hm : Moves e s t) (hl : s.lstate = .closing)
    (hr : s.rstate = .stopped) : t.rstate = .stopped := by
  obtain rfl | kept := hm.reader_or_readerPart_kept_of_closing hl
  · exact hm.eq_of_reader_of_stopped hr ▸ hr
  · exact kept.rstate.trans hr

/-- READER's bound stays within the READER turns to come, whatever the turn. -/
theorem Moves.readerTurnsLeft_le_count {es : List Event} (hm : Moves e s t) (hi : StateInv s)
    (hl : s.lstate = .closing) (h : readerTurnsLeft s ≤ (e :: es).count .reader) :
    readerTurnsLeft t ≤ es.count .reader := by
  refine le_count_of_le_count_cons h (fun hr => ?lowers) (fun hr => ?keeps)
  case lowers =>
    subst hr
    exact hm.readerTurnsLeft_le_pred hi hl
  case keeps =>
    have kept := (hm.reader_or_readerPart_kept_of_closing hl).resolve_left hr
    exact (readerTurnsLeft_congr kept).le

/-- The block is CLOSING, and READER has as many of the turns `es` as it needs to stop. -/
structure ReaderTurnsSuffice (es : List Event) (u : State) : Prop where
  inv : StateInv u
  closing : u.lstate = .closing
  bound : readerTurnsLeft u ≤ es.count .reader

theorem ReaderTurnsSuffice.next {es l : List Event} (h : ReaderTurnsSuffice (e :: es) s)
    (he : e.agent ≠ .host) (hm : Moves e { s with sched := l } t) : ReaderTurnsSuffice es t where
  inv := hm.keeps_inv (h.inv.withSched l)
  closing := (hm.host_or_hostPart_kept.resolve_left he).lstate.trans h.closing
  bound := hm.readerTurnsLeft_le_count (h.inv.withSched l) h.closing h.bound

/-- When the turns are over, READER has stopped. -/
theorem ReaderTurnsSuffice.stopped (h : ReaderTurnsSuffice [] s) : s.rstate = .stopped :=
  readerTurnsLeft_eq_zero_iff.mp (Nat.le_zero.mp h.bound)

end ReaderTurnsLeft

/-! ### A close on a fair run (R247, R281) -/

section Fair

variable {σ : Nat → Event} {r : Nat → State} {k : Nat}

/-- In CLOSING READER stays enabled until it stops, and the close cannot complete before it does. -/
theorem FairRun.reader_stops (hf : FairRun σ r) (hi : StateInv (r 0))
    (hl : (r k).lstate = .closing) : ∃ j, k ≤ j ∧ closeEnabled (r j) := by
  by_cases hr : (r k).rstate = .stopped
  · exact ⟨k, le_rfl, hl, hr⟩
  refine hf.readerFair.leads_to (P := fun s => s.lstate = .closing ∧ s.rstate ≠ .stopped)
    (Q := closeEnabled) readerTurnsLeft (fun j ⟨hl, hr⟩ => ⟨hl.trans_ne nofun, hr⟩)
    (fun j ⟨hl, hr⟩ => ?next) ⟨hl, hr⟩
  case next =>
    have hm := turn_moves (hf.run j)
    have hl' := (hm.closing_or_closed hl).resolve_right fun h => hr h.1
    by_cases hr' : (r (j + 1)).rstate = .stopped
    · exact .inl ⟨hl', hr'⟩
    · exact .inr ⟨⟨hl', hr'⟩, hm.readerTurnsLeft_of_closing (hf.stateInv hi j) hl hr⟩

/-- Close completion stays enabled until it comes. -/
theorem FairRun.close_completes (hf : FairRun σ r) (he : closeEnabled (r k)) :
    ∃ j, k ≤ j ∧ (r j).lstate = .closed := by
  refine hf.closeFair.leads_to (P := closeEnabled) (Q := fun s => s.lstate = .closed) (fun _ => 0)
    (fun _ => id) (fun j he => ?next) he
  case next =>
    have hm := turn_moves (hf.run j)
    obtain hl | ⟨-, -, hl⟩ := hm.closing_or_closed he.1
    · refine .inr ⟨⟨hl, hm.stopped_of_closing he.1 he.2⟩, le_rfl, fun ⟨st, hst⟩ => ?_⟩
      cases hl.symm.trans ((hst ▸ hm).closed_of_closeDone he)
    · exact .inl hl

end Fair

end Sys2Proof.Machine
end

section
/-! The statements about the command FSM and the lifecycle (spec/44_command_fsm.md), settled: the single
steps, then whole commands and closes on lists of turns and on fair runs. -/

namespace Sys2Proof.Proofs

open Machine

/-- Settles O22: a request with any opcode is the request step. -/
theorem requestStep : Obligations.RequestStep := by
  intro s o p n rest hs
  refine ⟨step_requests hs, fun h => ?refused⟩
  case refused =>
    rw [step_request hs]
    exact exists_requestCommand_refused o p n h

/-- Settles O25: the close step, or its refusal. -/
theorem closeStep : Obligations.CloseStep := by
  intro s rest hs
  rw [step_close hs]
  exact ⟨fun hl hc => closeBlock_eq_next.mpr ⟨hl, hc, rfl⟩,
    fun h => exists_closeBlock_refused (s := { s with sched := rest }) h⟩

/-- Settles O26: the step hands HOST one completion event, whose observation is the status, TXS and
the channels. -/
theorem closeCompletionStep : Obligations.CloseCompletionStep := by
  intro s st rest hs hl hr
  have hstep := (step_of_sched hs).trans
    (completeClose_of_enabled (s := { s with sched := rest }) st ⟨hl, hr⟩)
  refine ⟨?next, fun t ht => ?observed⟩
  case next => cases st <;> exact hstep
  case observed =>
    cases hstep.symm.trans ht
    exact observation_of_hostLog_append (c := .closeDone st) rfl

/-- Settles O28: the open step in CLOSED leaves every register at R290's value. -/
theorem resetIsTheFirstOpen : Obligations.ResetIsTheFirstOpen :=
  (step_open rfl).trans (openBlock_eq_next.mpr ⟨rfl, rfl⟩)

/-- Settles O30: WRITER's turn in CLEAR. -/
theorem writerClearStep : Obligations.WriterClearStep :=
  fun _ _ hs hl hc => (step_of_sched hs).trans (writerTurn_of_clear hl hc)

/-- Settles O31: WRITER's turn in SEND pushes the frame's list of bytes. -/
theorem writerSendStep : Obligations.WriterSendStep := by
  intro s f rest hs hl hc hf
  rw [← toList_eq_getElem f]
  exact (step_of_sched hs).trans (writerTurn_of_send hl hc hf)

/-- Settles O32: WRITER's turn in WAIT with ACK = 1. -/
theorem writerAcknowledgedStep : Obligations.WriterAcknowledgedStep :=
  fun _ _ hs hl hc ha => step_succeeds hs hl hc ha

/-- Settles O33: RC = 0 decides between the two timeout steps, and the last one leaves IDLE, where a
request is latched. -/
theorem writerTimeoutStep : Obligations.WriterTimeoutStep := by
  intro s n rest hs hl hc ha hn
  refine ⟨step_retries hs hl hc ha hn, ?_, ?_⟩
  all_goals rintro rfl
  · exact step_exhausts hs hl hc ha hn
  · rintro ho o p m rest' rfl
    exact ⟨_, runSteps_snoc (runSteps_succ_of_next (step_exhausts hs hl hc ha hn))
      (step_requests rfl ho rfl), rfl⟩

/-- Settles O37: READER's turn sets ACK, whichever command the frame acknowledges, and WRITER's turn
in WAIT reads it. -/
theorem anyAcknowledgmentCompletesTheWait : Obligations.AnyAcknowledgmentCompletesTheWait := by
  intro s c st p rest hl hc hr ha hcnt hb hs
  have hack := step_parses hs hl hr ha hcnt (rspFrame_length ..) hb
    (dispatchWindow_rspFrame_command c st p _)
  have hdone := step_succeeds (rest := rest)
    (s := closeWindow (setAck { s with sched := .writer :: rest })) rfl hl hc rfl
  exact runSteps_snoc (runSteps_succ_of_next hack) hdone

/-- Settles O34: the request starts the command's progress at no retries, and every turn keeps it. -/
theorem transmissionCount : Obligations.TransmissionCount := by
  intro s t o p n es hl hc hes hrun hend
  have hreq := step_requests (s := { s with sched := .cmdReq o p n :: es }) rfl hl hc
  rw [runSteps_succ_of_next hreq] at hrun
  obtain ⟨⟨k, h⟩, -⟩ := runSteps_keeps (rest := [])
    (P := fun _ u => ∃ k, CommandProgress s (encodeCommand o p) n k u)
    (fun _ _ _ _ he ⟨_, hk⟩ hs hv => (moves_of_step hs hv).keeps_commandProgress he (hk.withSched _))
    hes (List.append_nil es).symm ⟨0, commandProgress_latchCommand o p n s es⟩ hrun
  obtain ⟨m, hm, hsum⟩ := h.budget
  exact ⟨k, by omega, by simpa [hend] using h.sent, ⟨m, hm, by omega⟩, h.retries, h.ended hend⟩

/-- Settles O35: WRITER's turns alone are not stopped and set no ACK; with the invariant no turn is
stopped, and the hypothesis says that none sets ACK. -/
theorem unacknowledgedCommandExhausts : Obligations.UnacknowledgedCommandExhausts := by
  constructor
  case left =>
    intro s o p n rest hl hc hs
    obtain ⟨t, ht⟩ := (commandProgress_latchCommand o p n s _).exists_runSteps_eq_next rfl
    have hend := runSteps_exhausts hs hl hc (by simp [Event.agent]) (by simp)
      (by simpa using ackNeverRises_of_writers rfl) (by simpa using ht)
    rw [List.length_replicate] at hend
    exact ⟨t, hend⟩
  case right =>
    intro s o p n es rest hi hl hc hs hes hcount hquiet
    have hreq := step_requests hs hl hc
    obtain ⟨t, ht⟩ := ((hi.withSched (es ++ rest)).afterLatch o p n hl).exists_runSteps_eq_next hes rfl
    exact ⟨t, runSteps_exhausts hs hl hc hes hcount
      (fun j u v hj hu => hquiet (j + 1) u v hj ((runSteps_succ_of_next hreq).trans hu)) ht⟩

/-- Settles O36: no turn is stopped, and the command is over when the turns are. -/
theorem commandEndsWithinItsBudget : Obligations.CommandEndsWithinItsBudget := by
  intro s n es hi hc hn hes hcount
  have hsched := (List.append_nil es).symm
  obtain ⟨t, ht⟩ := (hi.withSched es).exists_runSteps_eq_next hes hsched
  obtain ⟨h, -⟩ := runSteps_keeps (P := CommandTurnsSuffice) (s := { s with sched := es })
    (fun _ _ _ _ he h hs hv => h.next he (moves_of_step hs hv)) hes hsched
    ⟨hi.inFlight hc, (writerTurnsLeft_le s).trans (by simpa [hn] using hcount)⟩ ht
  exact ⟨es.length, t, le_rfl, ht, h.idle⟩

/-- Settles O47: no turn is stopped, and READER has none left when the turns are over. -/
theorem readerStopsWithinOneIteration : Obligations.ReaderStopsWithinOneIteration := by
  intro s es hi hl hes hcount
  have hsched := (List.append_nil es).symm
  obtain ⟨t, ht⟩ := (hi.withSched es).exists_runSteps_eq_next hes hsched
  obtain ⟨h, -⟩ := runSteps_keeps (P := ReaderTurnsSuffice) (s := { s with sched := es })
    (fun _ _ _ _ he h hs hv => h.next he (moves_of_step hs hv)) hes hsched
    ⟨hi.withSched es, hl, (readerTurnsLeft_le s).trans hcount⟩ ht
  exact ⟨t, ht, h.stopped⟩

/-- Settles O58: in flight WRITER stays enabled, each of its turns brings the command nearer to its end,
and no other agent's turn changes the command. -/
theorem fairRunEndsEveryCommand : Obligations.FairRunEndsEveryCommand := by
  intro σ r hf hi k hk
  refine hf.writerFair.leads_to (P := fun s => s.cstate ≠ .idle) (Q := fun s => s.cstate = .idle)
    writerTurnsLeft (fun j hj => ⟨((hf.stateInv hi j).inFlight hj).trans_ne nofun, hj⟩)
    (fun j hj => ?next) hk
  case next =>
    by_cases hend : (r (j + 1)).cstate = .idle
    · exact .inl hend
    · exact .inr ⟨hend, (turn_moves (hf.run j)).writerTurnsLeft_of_inFlight (hf.stateInv hi j) hj⟩

/-- Settles O59: READER stops, and then the close completes. -/
theorem fairRunCompletesEveryClose : Obligations.FairRunCompletesEveryClose := by
  intro σ r hf hi k hl
  obtain ⟨i, hki, he⟩ := hf.reader_stops hi hl
  obtain ⟨j, hij, hclosed⟩ := hf.close_completes he
  exact ⟨j, hki.trans hij, hclosed⟩

end Sys2Proof.Proofs
end

section
/-! SUPPORT. The exceptions (spec/60_exceptions.md): which turns are refused and that HOST's never fault,
the moves that hand HOST a completion event, what has a step in CLOSED, and READER's way back to its
boundary. -/

namespace Sys2Proof.Machine

/-! ### HOST's duties (R263) -/

/-- The turn breaks one of HOST's duties: a request or a close needs OPEN and IDLE, an open CLOSED. -/
def breaksDuty : Event → State → Prop
  | .cmdReq _ _ _, s => s.lstate ≠ .opened ∨ s.cstate ≠ .idle
  | .closeReq, s => s.lstate ≠ .opened ∨ s.cstate ≠ .idle
  | .openReq _, s => s.lstate ≠ .closed
  | _, _ => False

section Duties

variable {e : Event} {s : State}

theorem breaksDuty_iff : breaksDuty e s ↔
    ((∃ o p n, e = .cmdReq o p n) ∧ (s.lstate ≠ .opened ∨ s.cstate ≠ .idle)) ∨
      (e = .closeReq ∧ (s.lstate ≠ .opened ∨ s.cstate ≠ .idle)) ∨
      ((∃ q, e = .openReq q) ∧ s.lstate ≠ .closed) := by
  cases e <;> simp [breaksDuty]

theorem exists_turn_refused_of_breaksDuty (h : breaksDuty e s) : ∃ r, turn e s = .refused r := by
  cases e with
  | openReq q => exact ⟨_, if_neg h⟩
  | closeReq => exact exists_closeBlock_refused h
  | cmdReq o p n =>
    obtain ⟨r, hr⟩ := exists_requestCommand_refused o p n h
    exact ⟨r, (hostRequest_eq o p n s).trans hr⟩
  | closeDone | writer | reader | device => exact h.elim

/-- HOST's turn, where it breaks no duty, has a next state: HOST's steps read no register of R42. -/
theorem exists_turn_eq_next_of_host (he : e.agent = .host) (h : ¬ breaksDuty e s) :
    ∃ t, turn e s = .next t := by
  cases e with
  | openReq q => exact ⟨_, openBlock_eq_next.mpr ⟨not_not.mp h, rfl⟩⟩
  | closeReq =>
    obtain ⟨hl, hc⟩ := not_or.mp h
    exact ⟨_, closeBlock_eq_next.mpr ⟨not_not.mp hl, not_not.mp hc, rfl⟩⟩
  | cmdReq o p n =>
    obtain ⟨hl, hc⟩ := not_or.mp h
    exact ⟨_, (hostRequest_eq o p n s).trans
      (requestCommand_eq_next.mpr ⟨not_not.mp hl, not_not.mp hc, rfl⟩)⟩
  | closeDone st =>
    by_cases hen : closeEnabled s
    · exact ⟨_, completeClose_of_enabled st hen⟩
    · exact ⟨_, completeClose_of_not_enabled hen st⟩
  | writer | reader | device => cases he

end Duties

/-! ### The other agents are never refused (R263) -/

section NotRefused

variable {s : State} {r : Refusal}

theorem writerSend_ne_refused : writerSend s ≠ .refused r := by
  unfold writerSend
  split <;> nofun

theorem writerTimeout_ne_refused : writerTimeout s ≠ .refused r := by
  unfold writerTimeout
  split
  · split <;> nofun
  · nofun

theorem writerTurn_ne_refused : writerTurn s ≠ .refused r := by
  unfold writerTurn
  split
  · nofun
  · split
    · nofun
    · nofun
    · exact writerSend_ne_refused
    · split
      · nofun
      · exact writerTimeout_ne_refused

theorem ne_refused_of_exists_eq_next {x : Result} (h : ∃ t, x = .next t) : x ≠ .refused r := by
  obtain ⟨t, rfl⟩ := h
  nofun

theorem readerParse_ne_refused : readerParse s ≠ .refused r := by
  cases hw : readWindow s with
  | ok f => exact ne_refused_of_exists_eq_next (exists_readerParse_eq_next hw)
  | error f => simp [readerParse, hw]

theorem readerTurn_ne_refused : readerTurn s ≠ .refused r := by
  unfold readerTurn
  split
  · nofun
  · split
    · nofun
    · nofun
    · split
      · split
        · exact ne_refused_of_exists_eq_next (exists_readerCollect_eq_next ‹_›)
        · exact readerParse_ne_refused
      · exact ne_refused_of_exists_eq_next (exists_readerBoundary_eq_next s)

theorem turn_ne_refused_of_not_host {e : Event} (he : e.agent ≠ .host) : turn e s ≠ .refused r := by
  cases e with
  | openReq | closeReq | closeDone | cmdReq => exact absurd rfl he
  | writer => exact writerTurn_ne_refused
  | reader => exact readerTurn_ne_refused
  | device b => exact ne_refused_of_exists_eq_next (exists_deviceTurn_eq_next b s)

/-- A turn is refused exactly where HOST breaks a duty. -/
theorem exists_turn_refused_iff {e : Event} : (∃ r, turn e s = .refused r) ↔ breaksDuty e s := by
  refine ⟨fun ⟨r, hr⟩ => ?_, exists_turn_refused_of_breaksDuty⟩
  by_contra hd
  by_cases he : e.agent = .host
  · exact ne_refused_of_exists_eq_next (exists_turn_eq_next_of_host he hd) hr
  · exact turn_ne_refused_of_not_host he hr

end NotRefused

theorem runSteps_succ_of_refused {k : Nat} {s : State} {r : Refusal} (h : step s = .refused r) :
    runSteps (k + 1) s = .refused r := by
  simp [runSteps, h]

/-! ### Faults (R264) -/

/-- HOST's turn has a next state or is refused. -/
theorem turn_ne_fault_of_host {e : Event} {s : State} {f : Fault} (he : e.agent = .host) :
    turn e s ≠ .fault f := by
  by_cases hd : breaksDuty e s
  · obtain ⟨r, hr⟩ := exists_turn_refused_of_breaksDuty hd
    simp [hr]
  · obtain ⟨t, ht⟩ := exists_turn_eq_next_of_host he hd
    simp [ht]

/-! ### Completion events (R262, R272, R282) -/

/-- From `s` to `t` the command in WAIT ends with the outcome `r`, and nothing observed changes (R235,
R236). -/
structure CommandEnds (r : CmdOutcome) (s t : State) : Prop where
  waiting : s.cstate = .wait
  idle : t.cstate = .idle
  cresult : t.cresult = r.result
  hostLog : t.hostLog = s.hostLog ++ [.cmdDone r]
  acknowledged : r = .ok → s.ack = true
  exhausted : r = .exhausted → s.ack = false ∧ s.rc = .holding 0
  lstate : t.lstate = s.lstate
  txs : t.txs = s.txs
  ack : t.ack = s.ack
  rc : t.rc = s.rc
  channels : t.channels = s.channels

section Completions

variable {e : Event} {s t : State} {r : CmdOutcome}

/-- Who writes the completion log: close completion and WRITER's two last steps (R262). -/
theorem Moves.hostLog_cases (hm : Moves e s t) :
    t.hostLog = s.hostLog ∨
      (∃ st, e = .closeDone st ∧ closeEnabled s ∧ t.hostLog = s.hostLog ++ [.closeDone st]) ∨
      (e = .writer ∧ ∃ r, CommandEnds r s t) := by
  cases hm with
  | closeEnds st hl hr => exact .inr (.inl ⟨st, rfl, ⟨hl, hr⟩, rfl⟩)
  | succeeds _ hc ha =>
    exact .inr (.inr ⟨rfl, .ok, hc, rfl, rfl, rfl, fun _ => ha, nofun, rfl, rfl, rfl, rfl, rfl⟩)
  | exhausts _ hc ha hn =>
    exact .inr (.inr
      ⟨rfl, .exhausted, hc, rfl, rfl, rfl, nofun, fun _ => ⟨ha, hn⟩, rfl, rfl, rfl, rfl, rfl⟩)
  | emits => exact .inl (emit_hostLog ..)
  | _ => exact .inl rfl

/-- A move that hands HOST `cmd_done(r)` is WRITER's, and ends the command with `r`. -/
theorem Moves.commandEnds (hm : Moves e s t) (h : t.hostLog = s.hostLog ++ [.cmdDone r]) :
    e = .writer ∧ CommandEnds r s t := by
  obtain hk | ⟨st, -, -, hlog⟩ | ⟨he, r', hends⟩ := hm.hostLog_cases
  · simp [hk] at h
  · simp [hlog] at h
  · obtain rfl : r' = r := by simpa [hends.hostLog] using h
    exact ⟨he, hends⟩

theorem CommandEnds.observation_eq (h : CommandEnds r s t) :
    observation s t = some (.atCmdDone r s.txs s.ack s.rc s.channels) := by
  rw [observation_of_hostLog_append h.hostLog, observeAt, h.txs, h.ack, h.rc, h.channels]

end Completions

/-! ### CLOSED (R280, R292) -/

theorem Moves.open_or_eq_of_closed {e : Event} {s t : State} (hm : Moves e s t)
    (hl : s.lstate = .closed) (ht : s.topen = false) : (∃ q, e = .openReq q) ∨ t = s := by
  cases hm with
  | opens q => exact .inl ⟨q, rfl⟩
  | closePasses | writerPasses | readerPasses | devicePasses => exact .inr rfl
  | closes h | closeEnds _ h | requests _ _ _ h => cases hl.symm.trans h
  | appends _ h => cases ht.symm.trans h
  | clears h | sends _ h | succeeds h | retries _ h | exhausts h | flushes h | stops h | begins h
  | expires h | collects _ _ h | emits _ _ _ h | acknowledges _ h | desyncs _ _ h =>
    exact absurd hl h

/-! ### READER's way back to its boundary (R281, R283) -/

/-- READER is at an iteration boundary (R171). -/
def atBoundary (s : State) : Prop := s.rstate = .run ∧ s.ract = false

section Boundary

variable {e : Event} {s t : State}

theorem StateInv.ract_of_desync (hi : StateInv s) (hr : s.rstate = .desync) : s.ract = false := by
  by_contra ha
  cases hr.symm.trans (hi.window (by simpa using ha))

/-- Away from the boundary each of READER's turns brings it nearer to the end of its iteration, whether
STOP is set or not. -/
theorem Moves.readerTurnsLeft_lt_of_not_atBoundary (hm : Moves .reader s t) (hi : StateInv s)
    (hen : readerEnabled s) (hb : ¬ atBoundary s) : readerTurnsLeft t < readerTurnsLeft s := by
  cases hm with
  | readerPasses hn => exact absurd hen (by simpa [readerEnabled, imp_iff_not_or] using hn)
  | flushes _ hr => simp [readerTurnsLeft, hr, hi.ract_of_desync hr]
  | stops _ hr ha | begins _ hr ha => exact absurd ⟨hr, ha⟩ hb
  | expires _ hr ha hc | collects _ _ _ hr ha hc =>
    simp [readerTurnsLeft, hr, ha]
    omega
  | emits _ _ _ _ hr ha hc | acknowledges _ _ hr ha hc | desyncs _ _ _ hr ha hc =>
    simp [readerTurnsLeft, hr, ha, hc]

/-- Outside CLOSED only READER's turns touch READER's part. -/
theorem Moves.reader_or_readerPart_kept_of_not_closed (hm : Moves e s t) (hl : s.lstate ≠ .closed) :
    e = .reader ∨ ReaderPartKept s t := by
  obtain (he | ⟨q, rfl⟩) | hk := hm.reader_or_open_or_readerPart_kept
  · exact .inl he
  · cases hm with
    | opens _ hl' => exact absurd hl' hl
  · exact .inr hk

/-- Away from the boundary no turn sets READER back, and its own bring it nearer. -/
theorem Moves.readerTurnsLeft_of_not_atBoundary (hm : Moves e s t) (hi : StateInv s)
    (hen : readerEnabled s) (hb : ¬ atBoundary s) :
    readerTurnsLeft t ≤ readerTurnsLeft s ∧
      (e = .reader → readerTurnsLeft t < readerTurnsLeft s) := by
  have lowers (he : e = .reader) : readerTurnsLeft t < readerTurnsLeft s := by
    subst he
    exact hm.readerTurnsLeft_lt_of_not_atBoundary hi hen hb
  refine ⟨?_, lowers⟩
  obtain he | kept := hm.reader_or_readerPart_kept_of_not_closed hen.1
  · exact (lowers he).le
  · exact (readerTurnsLeft_congr kept).le

theorem StateInv.readerEnabled_of_opened (hi : StateInv s) (hl : s.lstate = .opened) :
    readerEnabled s :=
  ⟨hl.trans_ne nofun, fun hr => hi.stopped hr hl⟩

/-- On a fair run READER, while the block is OPEN, comes to its boundary, unless OPEN ends first. -/
theorem FairRun.leaves_opened_or_atBoundary {σ : Nat → Event} {r : Nat → State} {k : Nat}
    (hf : FairRun σ r) (hi : StateInv (r 0)) (hl : (r k).lstate = .opened) :
    ∃ j, k ≤ j ∧ ((r j).lstate ≠ .opened ∨ atBoundary (r j)) := by
  by_cases hb : atBoundary (r k)
  · exact ⟨k, le_rfl, .inr hb⟩
  refine hf.readerFair.leads_to (P := fun s => s.lstate = .opened ∧ ¬ atBoundary s)
    (Q := fun s => s.lstate ≠ .opened ∨ atBoundary s) readerTurnsLeft
    (fun j ⟨hl, _⟩ => (hf.stateInv hi j).readerEnabled_of_opened hl) (fun j ⟨hl, hb⟩ => ?next)
    ⟨hl, hb⟩
  case next =>
    by_cases hend : (r (j + 1)).lstate ≠ .opened ∨ atBoundary (r (j + 1))
    · exact .inl hend
    · obtain ⟨hl', hb'⟩ := not_or.mp hend
      have hij := hf.stateInv hi j
      exact .inr ⟨⟨not_not.mp hl', hb'⟩, (turn_moves (hf.run j)).readerTurnsLeft_of_not_atBoundary hij
        (hij.readerEnabled_of_opened hl) hb⟩

end Boundary

end Sys2Proof.Machine
end

section
/-! The statements about exceptions (spec/60_exceptions.md), settled. -/

namespace Sys2Proof.Proofs

open Machine

/-- Settles O23: HOST's steps are refused where it breaks a duty and have a next state elsewhere, and no
other agent's turn is refused. -/
theorem onlyBrokenHostDutiesAreRefused : Obligations.OnlyBrokenHostDutiesAreRefused := by
  refine ⟨rfl, fun s e rest hs => ⟨?refusal, fun r k h => runSteps_succ_of_refused h⟩⟩
  case refusal =>
    rw [step_of_sched hs]
    exact exists_turn_refused_iff.trans breaksDuty_iff

/-- Settles O51: HOST's turns read no register that may hold no value, and under the invariant those of
the other agents have a next state. -/
theorem noStepFaults : Obligations.NoStepFaults := by
  intro s f hi
  cases hs : s.sched with
  | nil => simp [step_of_nil hs]
  | cons e rest =>
    by_cases he : e.agent = .host
    · rw [step_of_sched hs]
      exact turn_ne_fault_of_host he
    · obtain ⟨t, ht⟩ := hi.exists_step_eq_next he hs
      simp [ht]

/-- Settles O56: the completion log tells which move a step made, and a step that leaves the log as it
was is not observed. -/
theorem commandOutcomeIsPrecise : Obligations.CommandOutcomeIsPrecise := by
  intro s t e rest hs h
  have hm := moves_of_step hs h
  refine ⟨fun r hlog => ?outcome, fun hobs => ?observed⟩
  case outcome =>
    obtain ⟨he, hends⟩ := hm.commandEnds hlog
    refine ⟨he, hends.waiting, hends.idle, hends.lstate, fun hok => ⟨hends.acknowledged hok, ?_⟩,
      fun hex => ?_, hends.observation_eq⟩
    · simp [hends.cresult, hok, CmdOutcome.result]
    · obtain ⟨ha, hn⟩ := hends.exhausted hex
      exact ⟨ha, hn, by simp [hends.cresult, hex, CmdOutcome.result]⟩
  case observed =>
    obtain hk | ⟨st, he, ⟨hl, hr⟩, -⟩ | ⟨he, r, hends⟩ := hm.hostLog_cases
    · exact absurd (observation_eq_none hk) hobs
    · exact .inr ⟨⟨st, he⟩, hl, hr⟩
    · exact .inl ⟨he, hends.waiting⟩

/-- Settles O57: every move but open needs a state that is not CLOSED, or the transport, or passes. -/
theorem onlyOpenHasAStepInClosed : Obligations.OnlyOpenHasAStepInClosed := by
  intro s t e rest hs hl ht h
  exact (moves_of_step hs h).open_or_eq_of_closed hl ht

/-- Settles O60: while the block is OPEN READER stays enabled, and each of its turns away from the
boundary brings it nearer. -/
theorem fairRunReturnsToTheBoundary : Obligations.FairRunReturnsToTheBoundary := by
  intro σ r hf hi k hopen
  obtain ⟨j, hj, hend⟩ := hf.leaves_opened_or_atBoundary hi (hopen k le_rfl)
  obtain ⟨hr, ha⟩ := hend.resolve_left (not_not.mpr (hopen j hj))
  exact ⟨j, hj, hr, ha⟩

end Sys2Proof.Proofs
end

section
/-! SUPPORT. Reset and what comes before it (spec/70_reset_and_hazards.md): the open step where it is
refused, the invariant before the first open, and the empty transmit log. -/

namespace Sys2Proof.Machine

/-- Open is refused outside CLOSED (R263). -/
theorem openBlock_of_not_closed {q : List Byte} {s : State} (h : s.lstate ≠ .closed) :
    openBlock q s = .refused .openNotClosed := if_neg h

/-- Reset is the state that open leaves of the machine before it (R243, R290). -/
theorem reset_eq_openedState : State.reset = openedState [] State.beforeOpen := rfl

/-- Before the first open nothing is running: CLOSED, no command in flight, READER STOPPED, no window
(R292). -/
theorem stateInv_beforeOpen : StateInv State.beforeOpen where
  transport := by simp [State.beforeOpen]
  inFlight := absurd rfl
  latched := absurd rfl
  stopClear := nofun
  stopSet := nofun
  stopped _ := nofun
  closedStopped _ := rfl
  window := nofun
  idleWindow _ := rfl
  collected _ _ := nofun

/-- An empty transmit log is the sequence of no frames. -/
theorem TxFramed.of_txs_nil {s : State} (h : s.txs = []) : TxFramed s := ⟨[], h⟩

end Sys2Proof.Machine
end

section
/-! The statements about reset (spec/70_reset_and_hazards.md), settled. -/

namespace Sys2Proof.Proofs

open Machine

/-- Settles O24: the open step in CLOSED, or its refusal. -/
theorem openStep : Obligations.OpenStep := by
  intro s q rest hs
  rw [step_open hs]
  exact ⟨fun hl => openBlock_eq_next.mpr ⟨hl, rfl⟩,
    openBlock_of_not_closed (s := { s with sched := rest })⟩

/-- Settles O50: open establishes the invariant, it holds before the first open too, and reset has sent
no byte. -/
theorem resetHasInvariant : Obligations.ResetHasInvariant :=
  ⟨reset_eq_openedState ▸ stateInv_openedState [] State.beforeOpen, stateInv_beforeOpen,
    .of_txs_nil rfl⟩

end Sys2Proof.Proofs
end
